-- ==== Sys2Proof/Word.lean ====
section
/-! DEFINITION. The words of the block: bytes, control words, frame words, distances, and the window of seven bytes
(00_scope.md R9, 30_encoding.md R50, R56). -/

namespace Sys2Proof

/-- A byte: an unsigned integer 0 to 255, bit 7 most significant (00_scope.md R9, 20_memory.md R33). -/
abbrev Byte := BitVec 8

/-- The control word `C`, with `rst` in bit 10, `in_err` in bit 9, `in_valid` in bit 8 and `in_data` in bits 7 to 0
(30_encoding.md R56, format `CTRL11`). -/
abbrev ControlWord := BitVec 11

/-- A window seen as one number `F`, the first received byte most significant (30_encoding.md R50, format `FRAME56`). -/
abbrev FrameWord := BitVec 56

/-- A distance: 16 bits, unsigned, one count is one centimetre (30_encoding.md R52). -/
abbrev Distance := BitVec 16

/-- The seven bytes at the head of the buffer that are handed to the decoder, by offset from the oldest byte
(00_scope.md R9 and its glossary). -/
structure Window where
  w0 : Byte
  w1 : Byte
  w2 : Byte
  w3 : Byte
  w4 : Byte
  w5 : Byte
  w6 : Byte
  deriving DecidableEq, Repr

/-- What the host can present to the block: a control word at the input pins for one clock edge (30_encoding.md R56),
or a window as the argument of a call of `FrameDecoder.decode` (30_encoding.md R58, R59). -/
inductive InputWord where
  | ctrl (c : ControlWord)
  | frame (f : FrameWord)
  deriving DecidableEq, Repr

end Sys2Proof
end

