-- ==== Sys2Proof/Config.lean ====
section
/-! DEFINITION. The protocol constants of 00_scope.md R4 and the hardware parameters of R5. All are hardwired: no operation
and no byte of the stream changes one (10_state.md R17, 20_memory.md R41). -/

namespace Sys2Proof.Config

/-- `FRAME_LEN`: bytes in a frame and in a window (00_scope.md R4). -/
abbrev frameLen : Nat := 7

/-- `BUF_CAP`: the greatest length of the byte buffer between two operations (00_scope.md R5). -/
abbrev bufCap : Nat := 6

/-- `SYNC`: the value of each of the two sync-marker bytes (00_scope.md R4). -/
def sync : Byte := 0x5A

/-- `TYPE_DIST`: the type code of a distance frame (00_scope.md R4). -/
def typeDist : Byte := 0x45

/-- `LEN_DIST`: the length code, the payload size in bytes (00_scope.md R4). -/
def lenDist : Byte := 0x02

/-- `PAYLOAD_OFF`: the offset of the payload (00_scope.md R4). -/
abbrev payloadOff : Nat := 4

/-- `PAYLOAD_LEN`: the length of the payload (00_scope.md R4). -/
abbrev payloadLen : Nat := 2

/-- `CSUM_OFF`: the offset of the checksum byte (00_scope.md R4). -/
abbrev csumOff : Nat := 6

/-- `CSUM_FIRST`: the first offset the checksum covers (00_scope.md R4; 90_conflicts.md C1). -/
abbrev csumFirst : Nat := 0

/-- `CSUM_LAST`: the last offset the checksum covers (00_scope.md R4; 90_conflicts.md C1). -/
abbrev csumLast : Nat := 5

/-- `SENT_LO`: the lower sentinel distance, sensor underflow (00_scope.md R4). -/
def sentLo : Distance := 20

/-- `SENT_HI`: the upper sentinel distance, sensor overflow (00_scope.md R4). -/
def sentHi : Distance := 720

/-- The sum of offsets 0 to 3 once the marker, type and length checks have passed, `0xFB` (00_scope.md R4). -/
def headerSum : Byte := sync + sync + typeDist + lenDist

/-- `F_CLK`: the clock frequency, OPEN; no rule reads it and neither does the model (00_scope.md R5,
70_reset_and_hazards.md R164; log entry 14). -/
opaque fClk : Nat

end Sys2Proof.Config
end

