-- ==== Sys2Proof/Syntax.lean ====
section
/-! DEFINITION. The operations: one constructor per row of spec/opcode_table.json. -/

namespace Sys2Proof

/-- The rows of the opcode table. The first four are the port-level operations selected by a control word
(30_encoding.md R56). The other seven are the classes of a window (30_encoding.md R53), each carrying the bytes its class
leaves open; the fixed bytes are not repeated. -/
inductive Instr where
  /-- `RESET` (42_port_operations.md R111). -/
  | reset
  /-- `TERR`, the transport error (42_port_operations.md R113). -/
  | terr
  /-- `PUSH b` (42_port_operations.md R112). -/
  | push (b : Byte)
  /-- `IDLE` (42_port_operations.md R114). -/
  | idle
  /-- `FRAME.BADMARKER`: offsets 0 to 6 (40_frame_decoder.md R71). -/
  | frameBadMarker (w0 w1 w2 w3 w4 w5 w6 : Byte)
  /-- `FRAME.WRONGTYPE`: the type code and offsets 3 to 6 (40_frame_decoder.md R72). -/
  | frameWrongType (typ w3 w4 w5 w6 : Byte)
  /-- `FRAME.BADLEN`: the length code and offsets 4 to 6 (40_frame_decoder.md R73). -/
  | frameBadLen (len w4 w5 w6 : Byte)
  /-- `FRAME.CSUMERR`: the payload bytes and the checksum byte (40_frame_decoder.md R74). -/
  | frameCsumErr (hi lo csum : Byte)
  /-- `FRAME.OOR.LO`: the lower sentinel, an exact pattern (40_frame_decoder.md R76). -/
  | frameOorLo
  /-- `FRAME.OOR.HI`: the upper sentinel, an exact pattern (40_frame_decoder.md R76). -/
  | frameOorHi
  /-- `FRAME.DIST`: the distance and the checksum byte (40_frame_decoder.md R77). -/
  | frameDist (dist : Distance) (csum : Byte)
  deriving DecidableEq, Repr

end Sys2Proof
end

