-- ==== Sys2Proof/WellFormed.lean ====
section
/-! DEFINITION. Which terms of `Instr` are instances of their row: the condition the row puts on the bytes it leaves open
(30_encoding.md R53 and the "condition" of each row of spec/opcode_table.json). -/

namespace Sys2Proof

/-- The checksum byte that a payload asks for, `(0xFB + hi + lo) mod 256` (00_scope.md R4). -/
def expectedCsum (hi lo : Byte) : Byte := Config.headerSum + hi + lo

/-- The more significant payload byte of a distance (20_memory.md R32). -/
def distHi (d : Distance) : Byte := d.extractLsb' 8 8

/-- The less significant payload byte of a distance (20_memory.md R32). -/
def distLo (d : Distance) : Byte := d.extractLsb' 0 8

/-- The row's condition, as a Bool. Port operations have none: no control word is illegal (30_encoding.md R57). -/
def Instr.wf : Instr → Bool
  | .reset => true
  | .terr => true
  | .push _ => true
  | .idle => true
  | .frameBadMarker w0 w1 _ _ _ _ _ => w0 != Config.sync || w1 != Config.sync
  | .frameWrongType typ _ _ _ _ => typ != Config.typeDist
  | .frameBadLen len _ _ _ => len != Config.lenDist
  | .frameCsumErr hi lo csum => csum != expectedCsum hi lo
  | .frameOorLo => true
  | .frameOorHi => true
  | .frameDist dist csum =>
    csum == expectedCsum (distHi dist) (distLo dist) && dist != Config.sentLo && dist != Config.sentHi

/-- The term meets its row's condition. -/
abbrev Instr.WellFormed (i : Instr) : Prop := i.wf = true

end Sys2Proof
end

