-- ==== Sys2Proof/Decode.lean ====
section
/-! DEFINITION. Reading a control word (30_encoding.md R56) and a window (30_encoding.md R50, R53) as an instruction, and
writing an instruction as its word. Both decoders are total: no control word and no window is illegal (R54, R57). -/

namespace Sys2Proof

/-! ## A window as a number (R50) -/

/-- The window of a frame word: `w[0]` is `F[55:48]`, `w[6]` is `F[7:0]` (30_encoding.md R50). -/
def windowOfFrame (f : FrameWord) : Window where
  w0 := f.extractLsb' 48 8
  w1 := f.extractLsb' 40 8
  w2 := f.extractLsb' 32 8
  w3 := f.extractLsb' 24 8
  w4 := f.extractLsb' 16 8
  w5 := f.extractLsb' 8 8
  w6 := f.extractLsb' 0 8

/-- The frame word of a window, `F = {w[0], ..., w[6]}` (30_encoding.md R50). -/
def frameOfWindow (w : Window) : FrameWord :=
  w.w0 ++ w.w1 ++ w.w2 ++ w.w3 ++ w.w4 ++ w.w5 ++ w.w6

/-! ## The windows of the seven classes -/

/-- A window whose marker is right: the shape of `FRAME.WRONGTYPE` (30_encoding.md R53). -/
def markedWindow (typ w3 w4 w5 w6 : Byte) : Window := ⟨Config.sync, Config.sync, typ, w3, w4, w5, w6⟩

/-- A window whose marker and type are right: the shape of `FRAME.BADLEN` (30_encoding.md R53). -/
def typedWindow (len w4 w5 w6 : Byte) : Window := markedWindow Config.typeDist len w4 w5 w6

/-- A window that selects the distance frame, `5A 5A 45 02 hi lo csum` (30_encoding.md R51). -/
def headedWindow (hi lo csum : Byte) : Window := typedWindow Config.lenDist hi lo csum

/-- `frame(d)`, the one well-formed frame of distance `d` (40_frame_decoder.md R80 item 4). -/
def frameOfDistance (d : Distance) : Window :=
  headedWindow (distHi d) (distLo d) (expectedCsum (distHi d) (distLo d))

/-! ## Decoding -/

/-- The operation a control word selects: priority `rst` over `in_err` over `in_valid` (30_encoding.md R56, R57). -/
def decodeControl (c : ControlWord) : Instr :=
  if c.getLsbD 10 then .reset
  else if c.getLsbD 9 then .terr
  else if c.getLsbD 8 then .push (c.extractLsb' 0 8)
  else .idle

/-- The class of a window, found by testing in the order of 30_encoding.md R53 and stopping at the first that applies. -/
def classifyWindow (w : Window) : Instr :=
  if w.w0 ≠ Config.sync ∨ w.w1 ≠ Config.sync then .frameBadMarker w.w0 w.w1 w.w2 w.w3 w.w4 w.w5 w.w6
  else if w.w2 ≠ Config.typeDist then .frameWrongType w.w2 w.w3 w.w4 w.w5 w.w6
  else if w.w3 ≠ Config.lenDist then .frameBadLen w.w3 w.w4 w.w5 w.w6
  else if w.w6 ≠ expectedCsum w.w4 w.w5 then .frameCsumErr w.w4 w.w5 w.w6
  else if w.w4 ++ w.w5 = Config.sentLo then .frameOorLo
  else if w.w4 ++ w.w5 = Config.sentHi then .frameOorHi
  else .frameDist (w.w4 ++ w.w5) w.w6

/-- The row a frame word belongs to. -/
def decodeFrame (f : FrameWord) : Instr := classifyWindow (windowOfFrame f)

/-- The instruction the host's word stands for. -/
def decodeInput : InputWord → Instr
  | .ctrl c => decodeControl c
  | .frame f => decodeFrame f

/-! ## Encoding -/

/-- The window a frame instruction stands for; a port operation has none. -/
def instrWindow : Instr → Option Window
  | .reset => none
  | .terr => none
  | .push _ => none
  | .idle => none
  | .frameBadMarker w0 w1 w2 w3 w4 w5 w6 => some ⟨w0, w1, w2, w3, w4, w5, w6⟩
  | .frameWrongType typ w3 w4 w5 w6 => some (markedWindow typ w3 w4 w5 w6)
  | .frameBadLen len w4 w5 w6 => some (typedWindow len w4 w5 w6)
  | .frameCsumErr hi lo csum => some (headedWindow hi lo csum)
  | .frameOorLo => some (frameOfDistance Config.sentLo)
  | .frameOorHi => some (frameOfDistance Config.sentHi)
  | .frameDist dist csum => some (headedWindow (distHi dist) (distLo dist) csum)

/-- The canonical control word of a port operation, every ignored bit 0 (30_encoding.md R56); a frame has none and is
given the word of `IDLE` here, which `encode` never uses. -/
def controlOfInstr : Instr → ControlWord
  | .reset => 0x400
  | .terr => 0x200
  | .push b => 0b001#3 ++ b
  | .idle => 0x000
  | .frameBadMarker _ _ _ _ _ _ _ => 0x000
  | .frameWrongType _ _ _ _ _ => 0x000
  | .frameBadLen _ _ _ _ => 0x000
  | .frameCsumErr _ _ _ => 0x000
  | .frameOorLo => 0x000
  | .frameOorHi => 0x000
  | .frameDist _ _ => 0x000

/-- The words of an instruction. -/
def encode (i : Instr) : InputWord :=
  match instrWindow i with
  | some w => .frame (frameOfWindow w)
  | none => .ctrl (controlOfInstr i)

/-! ## The opcode table's numbers -/

/-- Why a number is no word of the table. -/
inductive Reject where
  /-- The width is that of neither format, `CTRL11` (11 bits, 16 in whole bytes) nor `FRAME56` (56 bits). -/
  | noSuchFormat (nbits : Nat)
  /-- A bit is set above the format's width, where the block has no pin. -/
  | noSuchBit (w : Nat)
  deriving DecidableEq, Repr

/-- The host's word that the table numbers `w` in a row of `nbits` bits: bit 0 of the table is bit 0 of `C` or of `F`
(log entry 12). -/
def inputOfTable (nbits w : Nat) : Except Reject InputWord :=
  if 11 ≤ nbits ∧ nbits ≤ 16 then
    if w < 2 ^ 11 then .ok (.ctrl (BitVec.ofNat 11 w)) else .error (.noSuchBit w)
  else if nbits = 56 then
    if w < 2 ^ 56 then .ok (.frame (BitVec.ofNat 56 w)) else .error (.noSuchBit w)
  else .error (.noSuchFormat nbits)

/-- Decoding any number of any width, rejecting by name. -/
def decodeBits (nbits w : Nat) : Except Reject Instr :=
  match inputOfTable nbits w with
  | .ok x => .ok (decodeInput x)
  | .error e => .error e

/-- The instruction the decoder reads from a word numbered as spec/opcode_table.json numbers it. -/
def decodeTableWord (nbits w : Nat) : Option Instr :=
  match decodeBits nbits w with
  | .ok i => some i
  | .error _ => none

/-- The fixed bits of an instruction's row, `mask` and `match`, as spec/opcode_table.json gives them. -/
def tableRow : Instr → Nat × Nat
  | .reset => (0x400, 0x400)
  | .terr => (0x600, 0x200)
  | .push _ => (0x700, 0x100)
  | .idle => (0x700, 0x000)
  | .frameBadMarker _ _ _ _ _ _ _ => (0x00000000000000, 0x00000000000000)
  | .frameWrongType _ _ _ _ _ => (0xFFFF0000000000, 0x5A5A0000000000)
  | .frameBadLen _ _ _ _ => (0xFFFFFF00000000, 0x5A5A4500000000)
  | .frameCsumErr _ _ _ => (0xFFFFFFFF000000, 0x5A5A4502000000)
  | .frameOorLo => (0xFFFFFFFFFFFFFF, 0x5A5A450200140F)
  | .frameOorHi => (0xFFFFFFFFFFFFFF, 0x5A5A450202D0CD)
  | .frameDist _ _ => (0xFFFFFFFF000000, 0x5A5A4502000000)

/-- A word carries the fixed bits of a row. -/
def hasFixedBits (x : InputWord) (row : Nat × Nat) : Bool :=
  match x with
  | .ctrl c => c &&& BitVec.ofNat 11 row.1 == BitVec.ofNat 11 row.2
  | .frame f => f &&& BitVec.ofNat 56 row.1 == BitVec.ofNat 56 row.2

end Sys2Proof
end

