-- ==== Sys2Proof/Machine/Outcome.lean ====
section
/-! DEFINITION. What the decoder returns (30_encoding.md R55, 60_exceptions.md R131, R132). -/

namespace Sys2Proof.Machine

/-- The five rejection reasons, in the order of the checks (60_exceptions.md R131). -/
inductive RejectionReason where
  | badMarker
  | wrongType
  | badLength
  | checksumMismatch
  | outOfRange
  deriving DecidableEq, Repr

/-- A DecodeOutcome: a distance, or the first failing check and nothing else (30_encoding.md R55, 60_exceptions.md R131). -/
inductive DecodeOutcome where
  | valid (distance : Distance)
  | invalid (reason : RejectionReason)
  deriving DecidableEq, Repr

end Sys2Proof.Machine
end

