-- ==== Sys2Proof/Machine/State.lean ====
section
/-! DEFINITION. The state of one instance (10_state.md), the reasons a step can stop, and the state after reset. -/

namespace Sys2Proof.Machine

/-- The power-on condition: whether the instance has been reset since power was applied (10_state.md R19). -/
inductive Power where
  /-- Never reset: every state element holds no value, and only `RESET` is accepted (10_state.md R19). -/
  | powerOn
  /-- Has been reset (10_state.md R20). -/
  | live
  deriving DecidableEq, Repr

/-- The outcome register, driving `out_valid`, `out_code` and `out_dist` (10_state.md R15). -/
structure OutReg where
  valid : Bool
  code : BitVec 3
  dist : BitVec 16
  deriving DecidableEq, Repr

/-- The register's contents after an operation that emits nothing, `(0, 0, 0x0000)` (10_state.md R15). -/
def OutReg.zero : OutReg := ⟨false, 0, 0⟩

/-- The state of one instance, all of it and nothing else (10_state.md, the table at its head, R17, R18). In the power-on
condition the registers hold whatever this record holds and no operation reads them (log entry 7). -/
structure Block where
  /-- The power-on condition (10_state.md R19). -/
  power : Power
  /-- The window registers `W[0]` to `W[5]` (10_state.md R11). -/
  w : Vector Byte Config.bufCap
  /-- `CNT`, the occupancy counter (10_state.md R12). -/
  cnt : BitVec 3
  /-- `FAULT`, the sticky session-fault flag, driving the pin `fault` (10_state.md R14). -/
  fault : Bool
  /-- `OUT`, the outcome register (10_state.md R15). -/
  out : OutReg
  deriving DecidableEq, Repr

/-- The block and what passes between it and the host in one step: the argument and the result of the operation, which
`step : State → …` has no other place for. They are no state of the block (10_state.md R18): neither outlasts its step into
the effect of another. -/
structure State extends Block where
  /-- MODEL'S OWN, the step's argument: the levels at the input pins for the coming edge (42_port_operations.md R110), or the
  window of the call of `decode` now made. It is one word and no stream: what comes later is the byte source's
  (10_state.md R18 (d); log entry 2). -/
  presented : InputWord
  /-- MODEL'S OWN, the step's result: what a call of `FrameDecoder.decode` hands back to its caller, and nothing from any
  other operation. No operation reads it and every one writes it (10_state.md R18 (c), 30_encoding.md R58, R59; log
  entry 4). -/
  returned : Option DecodeOutcome
  deriving DecidableEq, Repr

/-- Nothing stops this machine with a fault: the decoder is total (40_frame_decoder.md R70), a rejection is an ordinary
outcome (60_exceptions.md R133), and a transport error is the state HALTED and not a stop (60_exceptions.md R134). There is
therefore no constructor; safe, since the model never stops where the block goes on (log entry 16). -/
inductive Fault where
  deriving DecidableEq, Repr

/-- Why a step has no next state. -/
inductive Refusal where
  /-- Raised by `exec` alone, for an instruction that has no meaning yet; safe. No arm of this model uses it. -/
  | notModelled (mnemonic : String)
  /-- Raised by `TERR`, `PUSH` and `IDLE` on an instance that has never been reset, because 10_state.md R19 says that such
  an operation "is refused by the model (it is not given a result, not even an arbitrary one)"; safe. -/
  | neverReset
  deriving DecidableEq, Repr

/-- The state after `RESET` (10_state.md R20). The spec leaves `W` unspecified; the zeros here are the model's
(DESIGN CHOICE, log entry 1). The host asserts nothing and has been handed nothing (log entries 2 and 4). -/
def State.reset : State where
  power := .live
  w := Vector.replicate Config.bufCap 0
  cnt := 0
  fault := false
  out := OutReg.zero
  presented := .ctrl 0x000
  returned := none

end Sys2Proof.Machine
end

