-- ==== Sys2Proof/Machine/Operands.lean ====
section
/-! DEFINITION. The operands assembled from the bytes of a window (30_encoding.md R52) and the encoding of an outcome in
`OUT` (30_encoding.md R55). -/

namespace Sys2Proof.Machine

/-- `dist(w)`: the two payload bytes, big-endian, zero-extended (40_frame_decoder.md R75, 30_encoding.md R52 (a)). -/
def distance (w : Window) : Distance := (w.w4.setWidth 16 <<< 8) ||| w.w5.setWidth 16

/-- `csum(w)`: the sum of offsets 0 to 5 with the carries out of 8 bits discarded (40_frame_decoder.md R74, 30_encoding.md
R52 (b)). -/
def checksum (w : Window) : Byte := w.w0 + w.w1 + w.w2 + w.w3 + w.w4 + w.w5

/-- The bytes of a window in arrival order (20_memory.md R32). -/
def windowBytes (w : Window) : List Byte := [w.w0, w.w1, w.w2, w.w3, w.w4, w.w5, w.w6]

/-- The first seven of a sequence of bytes as a window, where there are that many (41_stream_synchronizer.md R93). -/
def windowOfBytes : List Byte → Option Window
  | b0 :: b1 :: b2 :: b3 :: b4 :: b5 :: b6 :: _ => some ⟨b0, b1, b2, b3, b4, b5, b6⟩
  | _ => none

/-- `code(o)` (30_encoding.md R55). -/
def outcomeCode : DecodeOutcome → BitVec 3
  | .valid _ => 0
  | .invalid .badMarker => 1
  | .invalid .wrongType => 2
  | .invalid .badLength => 3
  | .invalid .checksumMismatch => 4
  | .invalid .outOfRange => 5

/-- `dist(o)`: the measurement, and `0x0000` with every invalid outcome (30_encoding.md R55). -/
def outcomeDist : DecodeOutcome → BitVec 16
  | .valid d => d
  | .invalid _ => 0

/-- `OUT` after an operation that emits `o` (10_state.md R15). -/
def outOfOutcome (o : DecodeOutcome) : OutReg := ⟨true, outcomeCode o, outcomeDist o⟩

/-- How a consumer reads `OUT` (30_encoding.md R55): nothing while `out_valid` is 0, a measurement only with code 0. Codes
6 and 7 are never produced; reading them as nothing is the model's choice (log entry 13). -/
def outcomeOfOut (r : OutReg) : Option DecodeOutcome :=
  if r.valid then
    match r.code.toNat with
    | 0 => some (.valid r.dist)
    | 1 => some (.invalid .badMarker)
    | 2 => some (.invalid .wrongType)
    | 3 => some (.invalid .badLength)
    | 4 => some (.invalid .checksumMismatch)
    | 5 => some (.invalid .outOfRange)
    | _ => none
  else none

end Sys2Proof.Machine
end

