-- ==== Sys2Proof/Machine/Flags.lean ====
section
/-! DEFINITION. The condition signals of 10_state.md R16: functions of a window, forgotten after the operation that computes
them. There are no carry, zero, negative or overflow flags. -/

namespace Sys2Proof.Machine

/-- `marker_ok(a, b)` (40_frame_decoder.md R71): the decoder's first step and the synchronizer's marker detector
(41_stream_synchronizer.md R91). -/
def markerOk (a b : Byte) : Bool := a == Config.sync && b == Config.sync

/-- `type_ok(w)` (40_frame_decoder.md R72). -/
def typeOk (w : Window) : Bool := w.w2 == Config.typeDist

/-- `len_ok(w)` (40_frame_decoder.md R73). -/
def lenOk (w : Window) : Bool := w.w3 == Config.lenDist

/-- `csum_ok(w)` (40_frame_decoder.md R74). -/
def csumOk (w : Window) : Bool := checksum w == w.w6

/-- `sentinel(w)`: two equality tests on all 16 bits and no magnitude comparison (40_frame_decoder.md R76;
90_conflicts.md C6). -/
def sentinel (w : Window) : Bool := distance w == Config.sentLo || distance w == Config.sentHi

end Sys2Proof.Machine
end

