-- ==== Sys2Proof/Machine/Ops.lean ====
section
/-! DEFINITION. The named operations over the state: the buffer of the window registers, the outcome register, the session
fault (the block's one "exception entry") and its one exit, the host's side, and the pins. -/

namespace Sys2Proof.Machine

/-! ## The outcome register (10_state.md R15)

Every port operation writes `OUT`, and none hands an outcome back to a caller of `decode`, so `returned` is none after each
(10_state.md R18 (c); log entry 4). -/

/-- An operation that emits `o` writes `OUT <- (1, code(o), dist(o))` (10_state.md R15). -/
def State.emit (o : DecodeOutcome) (s : State) : State := { s with out := outOfOutcome o, returned := none }

/-- An operation that emits nothing writes `OUT <- (0, 0, 0)` (10_state.md R15). -/
def State.emitNothing (s : State) : State := { s with out := OutReg.zero, returned := none }

/-- What a consumer sees on the output pins: the outcome shown, if any (30_encoding.md R55). -/
def State.shown (s : State) : Option DecodeOutcome := outcomeOfOut s.out

/-! ## The byte buffer held in `W` and `CNT` (10_state.md R11) -/

/-- `buf = [W[0], ..., W[CNT - 1]]` (10_state.md R11). -/
def State.buf (s : State) : List Byte := s.w.toList.take s.cnt.toNat

/-- The append branch of `PUSH`: `W[CNT] <- b`, `CNT <- CNT + 1` (42_port_operations.md R112). -/
def State.append (b : Byte) (s : State) : State :=
  { s with w := s.w.setIfInBounds s.cnt.toNat b, cnt := s.cnt + 1 }

/-- The slide branch of `PUSH`: every register takes its neighbour, `W[5] <- b`, `CNT <- 6` (42_port_operations.md R112,
41_stream_synchronizer.md R92). -/
def State.slide (b : Byte) (s : State) : State :=
  { s with w := #v[s.w[1], s.w[2], s.w[3], s.w[4], s.w[5], b], cnt := 6 }

/-- Consuming the window: `CNT <- 0`; `W` is unchanged and now stale (42_port_operations.md R112,
41_stream_synchronizer.md R93). -/
def State.dropWindow (s : State) : State := { s with cnt := 0 }

/-- The window that the byte `b` completes (42_port_operations.md R112). -/
def State.window (b : Byte) (s : State) : Window := ⟨s.w[0], s.w[1], s.w[2], s.w[3], s.w[4], s.w[5], b⟩

/-- The marker detector at the port level: the operands are `W[0]` and `W[1]` (41_stream_synchronizer.md R91). -/
def State.headIsMarker (s : State) : Bool := markerOk s.w[0] s.w[1]

/-! ## The session (60_exceptions.md R134, R135, R139) -/

/-- Taking the session fault, the block's "trap entry": `FAULT <- 1`, `OUT <- (0, 0, 0)`, and nothing else. Nothing is
saved, nothing is vectored (60_exceptions.md R134). -/
def State.enterHalted (s : State) : State := State.emitNothing { s with fault := true }

/-- Its "trap return" and `new()`: the start of a new session with an empty buffer, the one exit from HALTED and from
power-on; `W` is not written (60_exceptions.md R135, 42_port_operations.md R111). -/
def State.newSession (s : State) : State := State.emitNothing { s with power := .live, cnt := 0, fault := false }

/-- An operation other than `RESET`: refused on an instance that has never been reset (10_state.md R19). -/
def State.whenReset (s t : State) : Host.Outcome State Fault Refusal :=
  match s.power with
  | .powerOn => .refused .neverReset
  | .live => .next t

/-- The condition after power is applied: never reset, the registers holding no value. Every content is a possible one, so
the contents are arguments (10_state.md R19, 93_implementation_defined.md U1; log entry 7). -/
def State.powerUp (w : Vector Byte Config.bufCap) (cnt : BitVec 3) (fault : Bool) (out : OutReg)
    (presented : InputWord) : State where
  power := .powerOn
  w := w
  cnt := cnt
  fault := fault
  out := out
  presented := presented
  returned := none

/-! ## The caller of `decode` -/

/-- Handing an outcome back to the caller of `FrameDecoder.decode`; the block's own state is untouched (30_encoding.md R59,
40_frame_decoder.md R70; log entry 4). -/
def State.handBack (o : DecodeOutcome) (s : State) : State := { s with returned := some o }

/-! ## The host's side -/

/-- The host presents `x`: control-word levels at the input pins for one edge, or a window to decode
(70_reset_and_hazards.md R155; log entry 2). -/
def State.present (x : InputWord) (s : State) : State := { s with presented := x }

/-- After the edge the host asserts nothing, the control word `0x000` of `IDLE`, until it presents a word again: each request
of 70_reset_and_hazards.md R155 is asserted "for one edge" (60_exceptions.md R143; log entry 3). -/
def State.release (s : State) : State := { s with presented := .ctrl 0x000 }

/-! ## The output pins (42_port_operations.md R110) -/

/-- The output pins; no pin shows `buf`, `W` or `CNT` (42_port_operations.md R110, 10_state.md R17). -/
structure OutputPins where
  outValid : Bool
  outCode : BitVec 3
  outDist : BitVec 16
  fault : Bool
  deriving DecidableEq, Repr

/-- The pins are the registers themselves, with no logic between (42_port_operations.md R110, R115). -/
def State.pins (s : State) : OutputPins := ⟨s.out.valid, s.out.code, s.out.dist, s.fault⟩

end Sys2Proof.Machine
end

