-- ==== Sys2Proof/Machine/FrameDecoder.lean ====
section
/-! DEFINITION. The FrameDecoder (40_frame_decoder.md): the six steps, each reached only if the steps before it passed, and
the meanings of the seven frame rows of the opcode table. "Raise" is a classification and not a trap (00_scope.md R9,
60_exceptions.md R133): the step returns at once with that outcome. -/

namespace Sys2Proof.Machine

/-- Step 6, `VALID`: the distance, raw (40_frame_decoder.md R77). -/
def FrameDecoder.validStep (w : Window) : DecodeOutcome := .valid (distance w)

/-- Step 5, `RANGE`, the 16-bit range comparator (40_frame_decoder.md R76). -/
def FrameDecoder.rangeStep (w : Window) : DecodeOutcome :=
  if sentinel w then .invalid .outOfRange else FrameDecoder.validStep w

/-- Step 4, `CSUM`, the 8-bit checksum validator (40_frame_decoder.md R74). -/
def FrameDecoder.csumStep (w : Window) : DecodeOutcome :=
  if csumOk w then FrameDecoder.rangeStep w else .invalid .checksumMismatch

/-- Step 3, `LEN` (40_frame_decoder.md R73). -/
def FrameDecoder.lenStep (w : Window) : DecodeOutcome :=
  if lenOk w then FrameDecoder.csumStep w else .invalid .badLength

/-- Step 2, `TYPE` (40_frame_decoder.md R72). -/
def FrameDecoder.typeStep (w : Window) : DecodeOutcome :=
  if typeOk w then FrameDecoder.lenStep w else .invalid .wrongType

/-- Step 1, `MARK` (40_frame_decoder.md R71). -/
def FrameDecoder.markStep (w : Window) : DecodeOutcome :=
  if markerOk w.w0 w.w1 then FrameDecoder.typeStep w else .invalid .badMarker

/-- `decode(w)`: the steps in strict order, the first failing check wins (40_frame_decoder.md R78). Pure, total,
deterministic (R70). -/
def FrameDecoder.decode (w : Window) : DecodeOutcome := FrameDecoder.markStep w

/-- A call of `FrameDecoder.decode(window)`: the pseudo-operation `DECODE`, which touches no state of the block and occupies
no cycle; the caller gets the outcome (30_encoding.md R58, R59; 60_exceptions.md R131; log entries 4 and 5). -/
def State.callDecode (w : Window) (s : State) : Host.Outcome State Fault Refusal :=
  .next (s.handBack (FrameDecoder.decode w))

/-- `FRAME.BADMARKER` (40_frame_decoder.md R71). -/
def execFrameBadMarker (w0 w1 w2 w3 w4 w5 w6 : Byte) (s : State) : Host.Outcome State Fault Refusal :=
  s.callDecode ⟨w0, w1, w2, w3, w4, w5, w6⟩

/-- `FRAME.WRONGTYPE` (40_frame_decoder.md R72). -/
def execFrameWrongType (typ w3 w4 w5 w6 : Byte) (s : State) : Host.Outcome State Fault Refusal :=
  s.callDecode (markedWindow typ w3 w4 w5 w6)

/-- `FRAME.BADLEN` (40_frame_decoder.md R73). -/
def execFrameBadLen (len w4 w5 w6 : Byte) (s : State) : Host.Outcome State Fault Refusal :=
  s.callDecode (typedWindow len w4 w5 w6)

/-- `FRAME.CSUMERR` (40_frame_decoder.md R74). -/
def execFrameCsumErr (hi lo csum : Byte) (s : State) : Host.Outcome State Fault Refusal :=
  s.callDecode (headedWindow hi lo csum)

/-- `FRAME.OOR.LO`, the window `5A 5A 45 02 00 14 0F` (40_frame_decoder.md R76). -/
def execFrameOorLo (s : State) : Host.Outcome State Fault Refusal :=
  s.callDecode (frameOfDistance Config.sentLo)

/-- `FRAME.OOR.HI`, the window `5A 5A 45 02 02 D0 CD` (40_frame_decoder.md R76). -/
def execFrameOorHi (s : State) : Host.Outcome State Fault Refusal :=
  s.callDecode (frameOfDistance Config.sentHi)

/-- `FRAME.DIST` (40_frame_decoder.md R77). -/
def execFrameDist (dist : Distance) (csum : Byte) (s : State) : Host.Outcome State Fault Refusal :=
  s.callDecode (headedWindow (distHi dist) (distLo dist) csum)

end Sys2Proof.Machine
end

