-- ==== Sys2Proof/Machine/PortOperations.lean ====
section
/-! DEFINITION. The four port-level operations (42_port_operations.md R111 to R114), one per rising clock edge. -/

namespace Sys2Proof.Machine

/-- `RESET`: a new session, in every state, the power-on condition and HALTED among them (42_port_operations.md R111). -/
def execReset (s : State) : Host.Outcome State Fault Refusal := .next s.newSession

/-- `TERR`: the session fault (42_port_operations.md R113). -/
def execTerr (s : State) : Host.Outcome State Fault Refusal := s.whenReset s.enterHalted

/-- `PUSH b` on an instance that has been reset (42_port_operations.md R112): ignored in HALTED; append below six bytes;
with six, take the window if its head is the marker and slide by one byte if not. -/
def State.pushed (b : Byte) (s : State) : State :=
  if s.fault then s.emitNothing
  else if s.cnt < 6 then (s.append b).emitNothing
  else if s.headIsMarker then s.dropWindow.emit (FrameDecoder.decode (s.window b))
  else (s.slide b).emitNothing

/-- `PUSH b` (42_port_operations.md R112). -/
def execPush (b : Byte) (s : State) : Host.Outcome State Fault Refusal := s.whenReset (s.pushed b)

/-- `IDLE`: the outcome's one cycle ends, nothing else changes (42_port_operations.md R114). -/
def execIdle (s : State) : Host.Outcome State Fault Refusal := s.whenReset s.emitNothing

end Sys2Proof.Machine
end

