-- ==== Sys2Proof/Machine/Dispatch.lean ====
section
/-! DEFINITION. One arm per constructor of Instr. -/

namespace Sys2Proof.Machine

def exec (i : Instr) (s : State) : Host.Outcome State Fault Refusal :=
  match i with
  | .reset => Sys2Proof.Machine.execReset s
  | .terr => Sys2Proof.Machine.execTerr s
  | .push b => Sys2Proof.Machine.execPush b s
  | .idle => Sys2Proof.Machine.execIdle s
  | .frameBadMarker w0 w1 w2 w3 w4 w5 w6 => Sys2Proof.Machine.execFrameBadMarker w0 w1 w2 w3 w4 w5 w6 s
  | .frameWrongType typ w3 w4 w5 w6 => Sys2Proof.Machine.execFrameWrongType typ w3 w4 w5 w6 s
  | .frameBadLen len w4 w5 w6 => Sys2Proof.Machine.execFrameBadLen len w4 w5 w6 s
  | .frameCsumErr hi lo csum => Sys2Proof.Machine.execFrameCsumErr hi lo csum s
  | .frameOorLo => Sys2Proof.Machine.execFrameOorLo s
  | .frameOorHi => Sys2Proof.Machine.execFrameOorHi s
  | .frameDist dist csum => Sys2Proof.Machine.execFrameDist dist csum s

end Sys2Proof.Machine
end

