-- ==== Sys2Proof/Machine/Step.lean ====
section
/-! DEFINITION. One step: the word the host presents is decoded and executed, once. -/

namespace Sys2Proof.Machine

/-- One step. A control word is one rising clock edge (42_port_operations.md R115); a window is one call of the decoder,
which takes no edge (30_encoding.md R59). -/
def step (s : State) : Host.Outcome State Fault Refusal :=
  exec (decodeInput s.presented) s.release

/-- `s` with the table's word `w` of `nbits` bits presented next; a number that is no word of the table is not presented
(log entry 12). -/
def State.withFetchWord (s : State) (nbits w : Nat) : State :=
  match inputOfTable nbits w with
  | .ok x => s.present x
  | .error _ => s

end Sys2Proof.Machine
end

