-- ==== Sys2Proof/Machine/Run.lean ====
section
/-! DEFINITION. Runs of one instance at the port level and what they show an observer (00_scope.md R8, 42_port_operations.md
R115, 70_reset_and_hazards.md R156). The trace is the observer's record; the block keeps none (10_state.md R18; log entry 19). -/

namespace Sys2Proof.Machine

/-- One clock edge with the control word `c` at the pins (42_port_operations.md R115). -/
def State.clock (c : ControlWord) (s : State) : Host.Outcome State Fault Refusal := exec (decodeControl c) s

/-- A run: the control words applied in order. It answers the outcomes shown, in order, and the final state; a refused
operation refuses the run. The run ends where the words end and nothing is flushed (70_reset_and_hazards.md R156). -/
def State.run : List ControlWord → State → Option (List DecodeOutcome × State)
  | [], s => some ([], s)
  | c :: rest, s =>
    match s.clock c with
    | .next t =>
      match State.run rest t with
      | some r => some (t.shown.toList ++ r.1, r.2)
      | none => none
    | _ => none

/-- The same run made by the machine's steps: for each word in turn the host presents it and the machine takes one step
(70_reset_and_hazards.md R155). The words stay with the host (10_state.md R18 (d)). -/
def State.drive : List ControlWord → State → Option (List DecodeOutcome × State)
  | [], s => some ([], s)
  | c :: rest, s =>
    match step (s.present (.ctrl c)) with
    | .next t =>
      match State.drive rest t with
      | some r => some (t.shown.toList ++ r.1, r.2)
      | none => none
    | _ => none

/-- The bytes the `PUSH` words of a sequence present, in order (42_port_operations.md R116). -/
def pushedBytes : List ControlWord → List Byte
  | [] => []
  | c :: rest =>
    match decodeControl c with
    | .push b => b :: pushedBytes rest
    | _ => pushedBytes rest

/-- The word selects `PUSH` or `IDLE`: no `RESET` and no `TERR`. -/
def isStreamWord (c : ControlWord) : Bool := !c.getLsbD 10 && !c.getLsbD 9

end Sys2Proof.Machine
end

