-- ==== Sys2Proof/Machine/Instances.lean ====
section
/-! DEFINITION. Several instances (60_exceptions.md R142): independent copies of one instance, with no shared state. A
schedule names, edge by edge, the instance that is operated and the word at its pins. -/

namespace Sys2Proof.Machine

/-- A run of several instances under a schedule: the outcomes shown, each with its instance, and the final states. An
instance that is not there, or a refused operation, refuses the run. -/
def runInstances : List (Nat × ControlWord) → List State → Option (List (Nat × DecodeOutcome) × List State)
  | [], ss => some ([], ss)
  | (k, c) :: rest, ss =>
    match ss[k]? with
    | none => none
    | some s =>
      match s.clock c with
      | .next t =>
        match runInstances rest (ss.set k t) with
        | some r => some ((t.shown.toList.map fun o => (k, o)) ++ r.1, r.2)
        | none => none
      | _ => none

/-- What a schedule or a trace holds for instance `k`. -/
def ofInstance {α : Type} (k : Nat) (xs : List (Nat × α)) : List α :=
  (xs.filter fun p => p.1 == k).map fun p => p.2

end Sys2Proof.Machine
end

