-- ==== Sys2Proof/Machine/Script.lean ====
section
/-! DEFINITION. The stimulus scripts of 30_encoding.md R58 and the pseudo-operations of R59: their abstract form, their
expansion into words, the reading of a script line, and the writing of an outcome. -/

namespace Sys2Proof.Machine

/-- A line of a script: the four operations and the three pseudo-operations (30_encoding.md R58, R59). -/
inductive ScriptOp where
  | reset
  | push (b : Byte)
  | terr
  | idle
  | new
  | feed (bytes : List Byte)
  | decode (w : Window)
  deriving DecidableEq, Repr

/-- The expansion into control words, one per cycle: `NEW` is `RESET`, `FEED` is its pushes in order, the empty `FEED` is
`IDLE`, and `DECODE` expands to nothing, occupying no cycle (30_encoding.md R59). -/
def ScriptOp.controlWords : ScriptOp → List ControlWord
  | .reset => [controlOfInstr .reset]
  | .push b => [controlOfInstr (.push b)]
  | .terr => [controlOfInstr .terr]
  | .idle => [controlOfInstr .idle]
  | .new => [controlOfInstr .reset]
  | .feed [] => [controlOfInstr .idle]
  | .feed (b :: rest) => (b :: rest).map fun x => controlOfInstr (.push x)
  | .decode _ => []

/-- What the host presents for a line: its control words, and for `DECODE` the call of the decoder (log entry 4). -/
def ScriptOp.inputs : ScriptOp → List InputWord
  | .decode w => [.frame (frameOfWindow w)]
  | .reset => ScriptOp.reset.controlWords.map .ctrl
  | .push b => (ScriptOp.push b).controlWords.map .ctrl
  | .terr => ScriptOp.terr.controlWords.map .ctrl
  | .idle => ScriptOp.idle.controlWords.map .ctrl
  | .new => ScriptOp.new.controlWords.map .ctrl
  | .feed bytes => (ScriptOp.feed bytes).controlWords.map .ctrl

/-! ## Reading a line (30_encoding.md R58; log entry 18) -/

/-- The text up to a comment. -/
def dropComment (line : List Char) : List Char := line.takeWhile (· != ';')

/-- The words of a line, separated by spaces; the accumulator holds the word being read, last letter first. -/
def splitWords : List Char → List Char → List (List Char)
  | [], acc => if acc.isEmpty then [] else [acc.reverse]
  | ch :: rest, acc =>
    if ch == ' ' then
      if acc.isEmpty then splitWords rest [] else acc.reverse :: splitWords rest []
    else splitWords rest (ch :: acc)

/-- A hexadecimal digit. -/
def hexDigit (ch : Char) : Option Nat :=
  if 48 ≤ ch.toNat ∧ ch.toNat ≤ 57 then some (ch.toNat - 48)
  else if 65 ≤ ch.toNat ∧ ch.toNat ≤ 70 then some (ch.toNat - 55)
  else if 97 ≤ ch.toNat ∧ ch.toNat ≤ 102 then some (ch.toNat - 87)
  else none

/-- A byte: exactly two hexadecimal digits without prefix. -/
def hexByte : List Char → Option Byte
  | [a, b] =>
    match hexDigit a, hexDigit b with
    | some x, some y => some (BitVec.ofNat 8 (16 * x + y))
    | _, _ => none
  | _ => none

/-- All the words as bytes. -/
def hexBytes : List (List Char) → Option (List Byte)
  | [] => some []
  | x :: rest =>
    match hexByte x, hexBytes rest with
    | some b, some bs => some (b :: bs)
    | _, _ => none

/-- An operation from its mnemonic and the bytes that follow it. -/
def scriptOpOf (mnemonic : List Char) (bytes : List Byte) : Option ScriptOp :=
  if mnemonic = ['R', 'E', 'S', 'E', 'T'] then (match bytes with | [] => some .reset | _ => none)
  else if mnemonic = ['P', 'U', 'S', 'H'] then (match bytes with | [b] => some (.push b) | _ => none)
  else if mnemonic = ['T', 'E', 'R', 'R'] then (match bytes with | [] => some .terr | _ => none)
  else if mnemonic = ['I', 'D', 'L', 'E'] then (match bytes with | [] => some .idle | _ => none)
  else if mnemonic = ['N', 'E', 'W'] then (match bytes with | [] => some .new | _ => none)
  else if mnemonic = ['F', 'E', 'E', 'D'] then some (.feed bytes)
  else if mnemonic = ['D', 'E', 'C', 'O', 'D', 'E'] then
    (match bytes with
    | [w0, w1, w2, w3, w4, w5, w6] => some (.decode ⟨w0, w1, w2, w3, w4, w5, w6⟩)
    | _ => none)
  else none

/-- A script line: an operation, or none where the line holds no operation of the syntax. -/
def readScriptLine (line : List Char) : Option ScriptOp :=
  match splitWords (dropComment line) [] with
  | [] => none
  | m :: args =>
    match hexBytes args with
    | some bytes => scriptOpOf m bytes
    | none => none

/-! ## Writing an outcome (30_encoding.md R58) -/

/-- The name of a reason, as the document writes it. -/
def reasonName : RejectionReason → String
  | .badMarker => "BadMarker"
  | .wrongType => "WrongType"
  | .badLength => "BadLength"
  | .checksumMismatch => "ChecksumMismatch"
  | .outOfRange => "OutOfRange"

/-- An outcome as scripts and vectors write it, `Valid(d)` with `d` in decimal or `Invalid(Reason)`. -/
def writeOutcome : DecodeOutcome → String
  | .valid d => "Valid(" ++ toString d.toNat ++ ")"
  | .invalid r => "Invalid(" ++ reasonName r ++ ")"

end Sys2Proof.Machine
end

