-- ==== Sys2Proof/Machine/StreamSynchronizer.lean ====
section
/-! DEFINITION. The transaction level (41_stream_synchronizer.md), normative by 00_scope.md R6: the operations of the
StreamSynchronizer on the byte buffer as a sequence of bytes. -/

namespace Sys2Proof.Machine

/-! ## The accesses to the buffer (00_scope.md R9, 20_memory.md R35) -/

/-- `MemRead(addr, n)`: `n` bytes from offset `addr`, not consumed; defined only when they are all there (00_scope.md R9). -/
def memRead (addr n : Nat) (buf : List Byte) : Option (List Byte) :=
  if addr + n ≤ buf.length then some ((buf.drop addr).take n) else none

/-- `MemWrite(len(buf), 1, b)`: the one write the buffer admits, an append at the tail (00_scope.md R9). -/
def memAppend (b : Byte) (buf : List Byte) : List Byte := buf ++ [b]

/-- `Drop(k)`: `k` bytes consumed from the head (00_scope.md R9). -/
def memDrop (k : Nat) (buf : List Byte) : List Byte := buf.drop k

/-! ## The branches of the scan loop -/

/-- `MARKDET`: the marker read `MemRead(0, 2)`, which the loop makes only with a whole window buffered
(41_stream_synchronizer.md R91, 20_memory.md R35). -/
def StreamSynchronizer.headIsMarker (buf : List Byte) : Bool :=
  match memRead 0 2 buf with
  | some [a, b] => markerOk a b
  | _ => false

/-- `SLIDE`: `Drop(1)`, nothing emitted (41_stream_synchronizer.md R92). -/
def StreamSynchronizer.slide (buf : List Byte) : List Byte := memDrop 1 buf

/-- The window slice `MemRead(0, 7)` (41_stream_synchronizer.md R93). -/
def StreamSynchronizer.slice (buf : List Byte) : Option Window :=
  match memRead 0 Config.frameLen buf with
  | some bytes => windowOfBytes bytes
  | none => none

/-- One iteration of the loop: nothing while fewer than seven bytes are buffered, else slide or take
(41_stream_synchronizer.md R91 to R94). -/
def StreamSynchronizer.iterate (buf : List Byte) : Option (Option DecodeOutcome × List Byte) :=
  match StreamSynchronizer.slice buf with
  | none => none
  | some w =>
    if StreamSynchronizer.headIsMarker buf then
      some (some (FrameDecoder.decode w), memDrop Config.frameLen buf)
    else some (none, StreamSynchronizer.slide buf)

/-- The loop with a bound on its iterations. -/
def StreamSynchronizer.loop : Nat → List Byte → List DecodeOutcome × List Byte
  | 0, buf => ([], buf)
  | n + 1, buf =>
    match StreamSynchronizer.iterate buf with
    | none => ([], buf)
    | some (o, rest) =>
      let r := StreamSynchronizer.loop n rest
      (o.toList ++ r.1, r.2)

/-- `scan(buf)`: the loop run to its end. Each iteration removes a byte, so `len(buf)` iterations are enough
(41_stream_synchronizer.md R94; log entry 15). -/
def StreamSynchronizer.scan (buf : List Byte) : List DecodeOutcome × List Byte :=
  StreamSynchronizer.loop buf.length buf

/-! ## The operations -/

/-- `new()` (41_stream_synchronizer.md R98). -/
def StreamSynchronizer.new : List Byte := []

/-- `push(buf, b)`: feed of one byte (41_stream_synchronizer.md R96). Its domain is a buffer at rest; on a longer one, which
no operation leaves behind, it does the loop's first iteration (log entry 17). -/
def StreamSynchronizer.push (buf : List Byte) (b : Byte) : Option DecodeOutcome × List Byte :=
  if buf.length < Config.bufCap then (none, memAppend b buf)
  else
    match StreamSynchronizer.iterate (memAppend b buf) with
    | none => (none, memAppend b buf)
    | some r => r

/-- `feed(buf, bytes)` in the form the spec executes, one push after the other (41_stream_synchronizer.md R97). -/
def StreamSynchronizer.feed (buf : List Byte) : List Byte → List DecodeOutcome × List Byte
  | [] => ([], buf)
  | b :: rest =>
    let p := StreamSynchronizer.push buf b
    let r := StreamSynchronizer.feed p.2 rest
    (p.1.toList ++ r.1, r.2)

/-- `feed(buf, bytes)` in the document's form: append all of them, then the loop (41_stream_synchronizer.md R97). -/
def StreamSynchronizer.feedBatch (buf bytes : List Byte) : List DecodeOutcome × List Byte :=
  StreamSynchronizer.scan (buf ++ bytes)

/-- A session of `feed` calls, each in the document's form, the buffer carried from call to call (20_memory.md R38). -/
def StreamSynchronizer.feedCalls (buf : List Byte) : List (List Byte) → List DecodeOutcome × List Byte
  | [] => ([], buf)
  | bytes :: rest =>
    let p := StreamSynchronizer.feedBatch buf bytes
    let r := StreamSynchronizer.feedCalls p.2 rest
    (p.1 ++ r.1, r.2)

end Sys2Proof.Machine
end

