-- ==== Sys2Proof/Safety.lean ====
section
/-! DEFINITION. What holds at rest (10_state.md R22) and when two states look alike to the caller (10_state.md R21,
93_implementation_defined.md U2, U11), in the terms the claims use. -/

namespace Sys2Proof.Safety

open Sys2Proof.Machine

/-- 10_state.md R22 items 1 to 7: what holds after every operation in an instance that has been reset. Item 1 is the bound
of `CNT` and the length of `buf`; item 3 says that `BadMarker` and the codes 6 and 7 never show. -/
structure RestInvariant (s : State) : Prop where
  cntLegal : s.cnt.toNat ≤ 6
  bufLength : s.buf.length = s.cnt.toNat
  quietIsZero : s.out.valid = false → s.out.code = 0 ∧ s.out.dist = 0
  codeReachable : s.out.valid = true →
    s.out.code = 0 ∨ s.out.code = 2 ∨ s.out.code = 3 ∨ s.out.code = 4 ∨ s.out.code = 5
  noDistWithRejection : s.out.valid = true → s.out.code ≠ 0 → s.out.dist = 0
  noSentinelShown : s.out.valid = true → s.out.code = 0 → s.out.dist ≠ 20 ∧ s.out.dist ≠ 720
  emittedEmpties : s.out.valid = true → s.cnt = 0
  haltedIsQuiet : s.fault = true → s.out.valid = false

/-- The invariant of every state: in an instance that has been reset, `RestInvariant` holds. Before the first reset every
element holds no value and nothing is claimed (10_state.md R19). -/
def AtRest (s : State) : Prop := s.power = .live → RestInvariant s

/-- Alike to the caller, now and later: the same session condition, fault and outcome register, and the same `buf` in RUN;
stale window registers (10_state.md R21 (b)) and the buffer of a halted session (93_implementation_defined.md U11) may
differ, and before the first reset so may everything. -/
def LooksAlike (s t : State) : Prop :=
  s.power = t.power ∧
  (s.power = .live → s.fault = t.fault ∧ s.out = t.out ∧ (s.fault = false → s.cnt = t.cnt ∧ s.buf = t.buf))

end Sys2Proof.Safety
end

