-- ==== Sys2Proof/Certificates/Slice0/Obligations.lean ====
section
/-! DEFINITION. The statements for the provers. Each docstring names the rule it formalises. -/

open Sys2Proof Sys2Proof.Machine Sys2Proof.Safety

/-! ## Encoding -/

/-- 30_encoding.md R50, R53, R56: for every well-formed instruction, decoding its word gives it back, with every operand at
every value. -/
def Obligations.DecodeOfEncodeIsIdentity : Prop :=
  ∀ i : Instr, i.WellFormed → decodeInput (encode i) = i

/-- 30_encoding.md R50, R53: each frame word has one meaning, so encoding what was decoded gives the word back. -/
def Obligations.EncodeOfDecodedFrameIsIdentity : Prop :=
  ∀ f : FrameWord, encode (decodeFrame f) = .frame f

/-- 30_encoding.md R56: the match and mask of each of the four rows, that the rows cover all words, and the canonical
words. -/
def Obligations.ControlWordSelectsByMaskAndMatch : Prop :=
  (∀ c : ControlWord,
    (decodeControl c = .reset ∨ decodeControl c = .terr ∨ (∃ b, decodeControl c = .push b) ∨ decodeControl c = .idle) ∧
    (decodeControl c = .reset ↔ c &&& 0x400 = 0x400) ∧
    (decodeControl c = .terr ↔ c &&& 0x600 = 0x200) ∧
    (∀ b : Byte, decodeControl c = .push b ↔ c &&& 0x700 = 0x100 ∧ c.extractLsb' 0 8 = b) ∧
    (decodeControl c = .idle ↔ c &&& 0x700 = 0x000)) ∧
  encode .reset = .ctrl 0x400 ∧ encode .terr = .ctrl 0x200 ∧ encode .idle = .ctrl 0x000 ∧
  ∀ b : Byte, encode (.push b) = .ctrl (0x100 + b.setWidth 11)

/-- 30_encoding.md R57: the priority gives every word a meaning and drops the lower-priority requests without trace. -/
def Obligations.PriorityDropsTheLosers : Prop :=
  ∀ (c : ControlWord) (s : State),
    (c.getLsbD 10 = true → s.clock c = s.clock 0x400) ∧
    (c.getLsbD 10 = false → c.getLsbD 9 = true → s.clock c = s.clock 0x200) ∧
    (c.getLsbD 10 = false → c.getLsbD 9 = false → c.getLsbD 8 = false → s.clock c = s.clock 0x000) ∧
    (s.power = .live → ∃ t, s.clock c = .next t)

/-- 30_encoding.md R53, the six classes in order, each with its condition, its row and its outcome. -/
def Obligations.WindowClassesAndOutcomes : Prop :=
  ∀ w : Window,
    if w.w0 ≠ 0x5A ∨ w.w1 ≠ 0x5A then
      classifyWindow w = .frameBadMarker w.w0 w.w1 w.w2 w.w3 w.w4 w.w5 w.w6 ∧
      FrameDecoder.decode w = .invalid .badMarker
    else if w.w2 ≠ 0x45 then
      classifyWindow w = .frameWrongType w.w2 w.w3 w.w4 w.w5 w.w6 ∧ FrameDecoder.decode w = .invalid .wrongType
    else if w.w3 ≠ 0x02 then
      classifyWindow w = .frameBadLen w.w3 w.w4 w.w5 w.w6 ∧ FrameDecoder.decode w = .invalid .badLength
    else if w.w6.toNat ≠ (0xFB + w.w4.toNat + w.w5.toNat) % 256 then
      classifyWindow w = .frameCsumErr w.w4 w.w5 w.w6 ∧ FrameDecoder.decode w = .invalid .checksumMismatch
    else if w = ⟨0x5A, 0x5A, 0x45, 0x02, 0x00, 0x14, 0x0F⟩ then
      classifyWindow w = .frameOorLo ∧ FrameDecoder.decode w = .invalid .outOfRange
    else if w = ⟨0x5A, 0x5A, 0x45, 0x02, 0x02, 0xD0, 0xCD⟩ then
      classifyWindow w = .frameOorHi ∧ FrameDecoder.decode w = .invalid .outOfRange
    else
      classifyWindow w = .frameDist (w.w4 ++ w.w5) w.w6 ∧ FrameDecoder.decode w = .valid (w.w4 ++ w.w5)

/-- 30_encoding.md R53, R57: whatever the host presents decodes to a well-formed instance of its row. -/
def Obligations.EveryWordDecodesWellFormed : Prop :=
  ∀ x : InputWord, (decodeInput x).WellFormed

/-- Words written out from 30_encoding.md R50 and R56, as in 95_test_vectors.md 5.1 and 5.3. That a number of 16 bits is read
as the 11-bit `C`, and one of 56 as `F`, is the model's choice (log entry 12). -/
def Obligations.SpecWordsDecodeToTheirRows : Prop :=
  decodeTableWord 16 0x400 = some .reset ∧ decodeTableWord 16 0x7FF = some .reset ∧
  decodeTableWord 16 0x3FF = some .terr ∧ decodeTableWord 16 0x15A = some (.push 0x5A) ∧
  decodeTableWord 16 0x0FF = some .idle ∧
  decodeTableWord 56 0x5B5A4502000A05 = some (.frameBadMarker 0x5B 0x5A 0x45 0x02 0x00 0x0A 0x05) ∧
  decodeTableWord 56 0x5A5A4402000A04 = some (.frameWrongType 0x44 0x02 0x00 0x0A 0x04) ∧
  decodeTableWord 56 0x5A5A4503000A06 = some (.frameBadLen 0x03 0x00 0x0A 0x06) ∧
  decodeTableWord 56 0x5A5A4502000AFF = some (.frameCsumErr 0x00 0x0A 0xFF) ∧
  decodeTableWord 56 0x5A5A450200140F = some .frameOorLo ∧
  decodeTableWord 56 0x5A5A450202D0CD = some .frameOorHi ∧
  decodeTableWord 56 0x5A5A4502000A05 = some (.frameDist 10 0x05)

/-! ## The step -/

/-- A step runs the instruction that the presented word decodes to, on the state in which the host has released its request;
with nothing asserted it runs `IDLE` (70_reset_and_hazards.md R155). That one word stands in the state, and that the host
asserts nothing after its edge, is the model's choice (log entries 2 and 3). -/
def Obligations.StepRunsTheDecodedInstruction : Prop :=
  (∀ s : State, step s = exec (decodeInput s.presented) { s with presented := .ctrl 0x000 }) ∧
  (∀ (x : InputWord) (s : State), step (s.present x) = exec (decodeInput x) { s with presented := .ctrl 0x000 }) ∧
  ∀ s : State, s.presented = .ctrl 0x000 → step s = exec .idle s

/-- 42_port_operations.md R115: one clock cycle as one total function of the block's state and the control word, `PUSH` being
R112. The pins are the registers. -/
def Obligations.CycleIsTheStepFunction : Prop :=
  (∀ (s : State) (c : ControlWord),
    if c.getLsbD 10 = true then
      ∃ t, s.clock c = .next t ∧
        t.toBlock = { s.toBlock with power := .live, cnt := 0, fault := false, out := ⟨false, 0, 0⟩ }
    else if s.power = .powerOn then s.clock c = .refused .neverReset
    else if c.getLsbD 9 = true then
      ∃ t, s.clock c = .next t ∧ t.toBlock = { s.toBlock with fault := true, out := ⟨false, 0, 0⟩ }
    else if c.getLsbD 8 = true then s.clock c = exec (.push (c.extractLsb' 0 8)) s
    else ∃ t, s.clock c = .next t ∧ t.toBlock = { s.toBlock with out := ⟨false, 0, 0⟩ }) ∧
  ∀ s : State, s.pins.outValid = s.out.valid ∧ s.pins.outCode = s.out.code ∧ s.pins.outDist = s.out.dist ∧
    s.pins.fault = s.fault

/-- 00_scope.md R8, 42_port_operations.md R115: a run of control words is what the machine's steps do when the host presents
the words one at a time, with the same outcomes and the same final state, and refused where one is refused. How a word is
presented is the model's choice (log entries 2 and 3). -/
def Obligations.PresentedWordsRunAsTheWords : Prop :=
  ∀ (ws : List ControlWord) (s : State), s.presented = .ctrl 0x000 → s.drive ws = s.run ws

/-! ## Reset and the power-on condition -/

/-- 10_state.md R20: the state after `RESET`, in the model's reset state and after `RESET` in every state; `RESET` does not
write the window registers. -/
def Obligations.ResetLeavesTheTableOfValues : Prop :=
  (State.reset.power = .live ∧ State.reset.buf = [] ∧ State.reset.cnt = 0 ∧ State.reset.fault = false ∧
    State.reset.out.valid = false ∧ State.reset.out.code = 0 ∧ State.reset.out.dist = 0) ∧
  ∀ s : State, ∃ t, exec .reset s = .next t ∧ t.power = .live ∧ t.buf = [] ∧ t.cnt = 0 ∧ t.fault = false ∧
    t.out.valid = false ∧ t.out.code = 0 ∧ t.out.dist = 0 ∧ t.w = s.w

/-- 42_port_operations.md R111: `RESET` completes in every state, power-on and HALTED among them, whatever the other bits of
the control word, changes nothing but what is named, and two in a row equal one; no other operation leaves power-on or
HALTED. -/
def Obligations.ResetCompletesInEveryState : Prop :=
  (∀ s : State, ∃ t, exec .reset s = .next t ∧
    t.toBlock = { s.toBlock with power := .live, cnt := 0, fault := false, out := ⟨false, 0, 0⟩ } ∧ t.buf = [] ∧
    exec .reset t = .next t ∧ ∀ c : ControlWord, c.getLsbD 10 = true → s.clock c = .next t) ∧
  ∀ (i : Instr) (s t : State), i ≠ .reset → exec i s = .next t →
    t.power = s.power ∧ (s.fault = true → t.fault = true)

/-- 10_state.md R19: an operation other than `RESET` on an instance that has never been reset is refused. -/
def Obligations.NeverResetIsRefused : Prop :=
  ∀ s : State, s.power = .powerOn →
    exec .terr s = .refused .neverReset ∧ exec .idle s = .refused .neverReset ∧
    (∀ b, exec (.push b) s = .refused .neverReset) ∧ ∃ t, exec .reset s = .next t ∧ t.power = .live

/-- 60_exceptions.md R139: nothing but applying power enters power-on; an instance that has been reset stays so, and only
`RESET` leaves power-on. -/
def Obligations.PowerOnIsLeftByResetOnly : Prop :=
  ∀ (i : Instr) (s t : State), exec i s = .next t →
    (s.power = .live → t.power = .live) ∧ (s.power = .powerOn → t.power = .live → i = .reset)

/-- 20_memory.md R39: `RESET` separates what is before it from what is after it: whatever two states held, they look alike
to the caller after it. That the field `returned` is none after it, so that nothing an earlier call of `decode` handed back
is left, is the model's choice (log entry 4): the field is the model's own. -/
def Obligations.ResetForgetsTheSession : Prop :=
  ∀ s t s' t' : State, exec .reset s = .next s' → exec .reset t = .next t' →
    LooksAlike s' t' ∧ s'.returned = none ∧ t'.returned = none

/-! ## The port operations -/

/-- 42_port_operations.md R113: `TERR` completes on every instance that has been reset, whatever `in_valid` and `in_data`;
in HALTED it changes nothing but `OUT`. -/
def Obligations.TerrCompletes : Prop :=
  ∀ s : State, s.power = .live →
    (∃ t, exec .terr s = .next t ∧ t.toBlock = { s.toBlock with fault := true, out := ⟨false, 0, 0⟩ }) ∧
    ∀ c : ControlWord, c.getLsbD 10 = false → c.getLsbD 9 = true → s.clock c = exec .terr s

/-- 42_port_operations.md R114: `IDLE` completes on every instance that has been reset and writes `OUT` alone; any number of
them between two operations changes nothing else. -/
def Obligations.IdleCompletes : Prop :=
  (∀ s : State, s.power = .live →
    (∃ t, exec .idle s = .next t ∧ t.toBlock = { s.toBlock with out := ⟨false, 0, 0⟩ }) ∧
    ∀ c : ControlWord, c.getLsbD 10 = false → c.getLsbD 9 = false → c.getLsbD 8 = false → s.clock c = exec .idle s) ∧
  ∀ (ws : List ControlWord) (s : State), s.power = .live → (∀ c ∈ ws, decodeControl c = .idle) → ws ≠ [] →
    ∃ t, s.run ws = some ([], t) ∧ t.toBlock = { s.toBlock with out := ⟨false, 0, 0⟩ }

/-- 42_port_operations.md R112: `PUSH b` completes on every instance that has been reset, branch by branch. -/
def Obligations.PushCompletes : Prop :=
  ∀ (b : Byte) (s : State), s.power = .live →
    s.clock (0x100 + b.setWidth 11) = exec (.push b) s ∧
    ∃ t, exec (.push b) s = .next t ∧ t.toBlock =
      if s.fault = true then { s.toBlock with out := ⟨false, 0, 0⟩ }
      else if s.cnt < 6 then
        { s.toBlock with w := s.w.setIfInBounds s.cnt.toNat b, cnt := s.cnt + 1, out := ⟨false, 0, 0⟩ }
      else if s.w[0] = 0x5A ∧ s.w[1] = 0x5A then
        let o := FrameDecoder.decode ⟨s.w[0], s.w[1], s.w[2], s.w[3], s.w[4], s.w[5], b⟩
        { s.toBlock with cnt := 0, out := ⟨true, outcomeCode o, outcomeDist o⟩ }
      else
        { s.toBlock with w := #v[s.w[1], s.w[2], s.w[3], s.w[4], s.w[5], b], cnt := 6, out := ⟨false, 0, 0⟩ }

/-- 42_port_operations.md R112 with 41_stream_synchronizer.md R96 and 10_state.md R11: in RUN, `PUSH b` is `push(buf, b)`
under the abstraction, with the optional outcome shown on `OUT`. -/
def Obligations.PushRefinesBufferPush : Prop :=
  ∀ (b : Byte) (s : State), s.power = .live → s.fault = false → s.cnt.toNat ≤ 6 →
    ∃ t, exec (.push b) s = .next t ∧ (t.shown, t.buf) = StreamSynchronizer.push s.buf b

/-- The frame of `PUSH` (10_state.md R11, R14; 42_port_operations.md R112): the session, the fault, the presented word and
every window register but those the branch writes are unchanged. That nothing is handed back to a caller of `decode` is the
model's own field (log entry 4). -/
def Obligations.PushFrame : Prop :=
  ∀ (b : Byte) (s t : State), exec (.push b) s = .next t →
    t.power = s.power ∧ t.fault = s.fault ∧ t.returned = none ∧ t.presented = s.presented ∧
    (s.fault = true → t.w = s.w ∧ t.cnt = s.cnt) ∧
    (s.fault = false → s.cnt < 6 → t.w[s.cnt.toNat]? = some b ∧ ∀ j : Fin 6, j.val ≠ s.cnt.toNat → t.w[j] = s.w[j]) ∧
    (s.fault = false → s.cnt = 6 → s.w[0] = 0x5A ∧ s.w[1] = 0x5A → t.w = s.w)

/-- The frame of `RESET`, `TERR` and `IDLE` (42_port_operations.md R111, R113, R114): the window registers and the
presented word are unchanged; `TERR` and `IDLE` keep the buffer, and `IDLE` the fault. That nothing is handed back to a
caller of `decode` is the model's own field (log entry 4). -/
def Obligations.ControlOperationsFrame : Prop :=
  ∀ (i : Instr) (s t : State), i = .reset ∨ i = .terr ∨ i = .idle → exec i s = .next t →
    t.w = s.w ∧ t.returned = none ∧ t.presented = s.presented ∧
    (i ≠ .reset → t.power = s.power ∧ t.cnt = s.cnt ∧ t.buf = s.buf) ∧ (i = .idle → t.fault = s.fault)

/-- 10_state.md R12: `CNT` is the length of `buf` and is never 7 between operations; every change of it, and no operation but
`RESET` and a `PUSH` in RUN changes it. -/
def Obligations.CntMovesAsListed : Prop :=
  (∀ s : State, s.cnt.toNat ≤ 6 → s.buf.length = s.cnt.toNat) ∧
  (∀ (i : Instr) (s t : State), exec i s = .next t → s.cnt.toNat ≤ 6 → t.cnt.toNat ≤ 6) ∧
  ∀ (i : Instr) (s t : State), exec i s = .next t →
    (i = .reset ∧ t.cnt = 0) ∨
    (∃ b, i = .push b ∧ s.fault = false ∧
      ((s.cnt < 6 ∧ t.cnt = s.cnt + 1) ∨
       (¬ s.cnt < 6 ∧ ¬(s.w[0] = 0x5A ∧ s.w[1] = 0x5A) ∧ t.cnt = 6) ∨
       (¬ s.cnt < 6 ∧ s.w[0] = 0x5A ∧ s.w[1] = 0x5A ∧ t.cnt = 0))) ∨
    (i ≠ .reset ∧ (s.fault = true ∨ ∀ b, i ≠ .push b) ∧ t.cnt = s.cnt)

/-- 10_state.md R14: `FAULT` is set only by `TERR` and cleared only by `RESET`, is read by `PUSH`, which does nothing while
it is 1 but clear `OUT`, and drives the pin. -/
def Obligations.FaultIsStickyUntilReset : Prop :=
  (∀ (i : Instr) (s t : State), exec i s = .next t →
    (s.fault = false → t.fault = true → i = .terr) ∧ (s.fault = true → t.fault = false → i = .reset) ∧
    (i = .terr → t.fault = true) ∧ (i = .reset → t.fault = false) ∧ t.pins.fault = t.fault) ∧
  ∀ (b : Byte) (s : State), s.power = .live → s.fault = true →
    ∃ t, exec (.push b) s = .next t ∧ t.toBlock = { s.toBlock with out := ⟨false, 0, 0⟩ }

/-- 10_state.md R15: every port operation writes all of `OUT`: the encoding of the outcome of the one window a `PUSH`
takes, and `(0, 0, 0)` otherwise. -/
def Obligations.OutIsWrittenByEveryPortOperation : Prop :=
  ∀ (i : Instr) (s t : State), instrWindow i = none → exec i s = .next t →
    t.out = ⟨false, 0, 0⟩ ∨
    ∃ b, i = .push b ∧ s.fault = false ∧ ¬ s.cnt < 6 ∧ s.w[0] = 0x5A ∧ s.w[1] = 0x5A ∧
      t.out = outOfOutcome (FrameDecoder.decode ⟨s.w[0], s.w[1], s.w[2], s.w[3], s.w[4], s.w[5], b⟩)

/-- 10_state.md R15: `OUT` is not read by any operation: whatever it held, a port operation has the same effect. -/
def Obligations.OutIsNeverRead : Prop :=
  ∀ (i : Instr) (s : State) (r : OutReg), instrWindow i = none → exec i { s with out := r } = exec i s

/-- 10_state.md R22 item 8: with six bytes buffered, the head alone decides whether the next `PUSH` in RUN emits, whatever
its byte. -/
def Obligations.FullBufferForecastsThePush : Prop :=
  ∀ (s : State), s.power = .live → s.fault = false → s.cnt = 6 →
    ∀ b : Byte, ∃ t, exec (.push b) s = .next t ∧
      (t.out.valid = true ↔ s.w[0] = 0x5A ∧ s.w[1] = 0x5A) ∧ (t.shown = none ↔ ¬(s.w[0] = 0x5A ∧ s.w[1] = 0x5A))

/-- 60_exceptions.md R134, R135 and 93_implementation_defined.md U10: from HALTED, no sequence without `RESET` emits
anything, changes the buffer or clears the fault. -/
def Obligations.HaltedUntilReset : Prop :=
  ∀ (ws : List ControlWord) (s : State), s.power = .live → s.fault = true →
    (∀ c ∈ ws, c.getLsbD 10 = false) →
    ∃ t, s.run ws = some ([], t) ∧ t.power = .live ∧ t.fault = true ∧ t.w = s.w ∧ t.cnt = s.cnt

/-! ## The decoder -/

/-- 40_frame_decoder.md R78: the whole function, with the sum and the distance as the rule writes them. -/
def Obligations.DecodeIsTheWholeFunction : Prop :=
  ∀ w : Window,
    FrameDecoder.decode w =
      if w.w0 ≠ 0x5A ∨ w.w1 ≠ 0x5A then .invalid .badMarker
      else if w.w2 ≠ 0x45 then .invalid .wrongType
      else if w.w3 ≠ 0x02 then .invalid .badLength
      else if (w.w0.toNat + w.w1.toNat + w.w2.toNat + w.w3.toNat + w.w4.toNat + w.w5.toNat) % 256 ≠ w.w6.toNat then
        .invalid .checksumMismatch
      else if 256 * w.w4.toNat + w.w5.toNat = 20 ∨ 256 * w.w4.toNat + w.w5.toNat = 720 then .invalid .outOfRange
      else .valid (BitVec.ofNat 16 (256 * w.w4.toNat + w.w5.toNat))

/-- 40_frame_decoder.md R75: the distance is the big-endian number of the payload bytes, 0 to 65535. -/
def Obligations.DistanceIsBigEndianUnsigned : Prop :=
  ∀ w : Window, (distance w).toNat = 256 * w.w4.toNat + w.w5.toNat

/-- 40_frame_decoder.md R74: the checksum is the low 8 bits of the true sum of offsets 0 to 5, and for each first six bytes
exactly one checksum byte passes. -/
def Obligations.ChecksumIsTheSumModulo256 : Prop :=
  (∀ w : Window, (checksum w).toNat =
    (w.w0.toNat + w.w1.toNat + w.w2.toNat + w.w3.toNat + w.w4.toNat + w.w5.toNat) % 256) ∧
  ∀ w : Window, ∃ c : Byte, ∀ x : Byte, csumOk { w with w6 := x } = true ↔ x = c

/-- 40_frame_decoder.md R80 item 2: when `decode` answers `Valid(d)`. -/
def Obligations.ValidIffWellFormedAndNoSentinel : Prop :=
  ∀ (w : Window) (d : Distance),
    FrameDecoder.decode w = .valid d ↔
      w.w0 = 0x5A ∧ w.w1 = 0x5A ∧ w.w2 = 0x45 ∧ w.w3 = 0x02 ∧ d.toNat = 256 * w.w4.toNat + w.w5.toNat ∧
      w.w6.toNat = (0xFB + w.w4.toNat + w.w5.toNat) % 256 ∧ d ≠ 20 ∧ d ≠ 720

/-- 40_frame_decoder.md R80 item 3 and R76: only two of all windows are out of range. -/
def Obligations.OutOfRangeOnlyForTwoWindows : Prop :=
  ∀ w : Window,
    FrameDecoder.decode w = .invalid .outOfRange ↔
      w = ⟨0x5A, 0x5A, 0x45, 0x02, 0x00, 0x14, 0x0F⟩ ∨ w = ⟨0x5A, 0x5A, 0x45, 0x02, 0x02, 0xD0, 0xCD⟩

/-- 40_frame_decoder.md R80 item 4: for every distance there is exactly one well-formed window, `frame(d)`. -/
def Obligations.OneWellFormedFramePerDistance : Prop :=
  ∀ d : Distance,
    (∀ w : Window, (markerOk w.w0 w.w1 = true ∧ typeOk w = true ∧ lenOk w = true ∧ csumOk w = true ∧ distance w = d) ↔
      w = frameOfDistance d) ∧
    FrameDecoder.decode (frameOfDistance d) = if d = 20 ∨ d = 720 then .invalid .outOfRange else .valid d

/-- 40_frame_decoder.md R80 item 5: one changed byte among offsets 4 to 6 of a well-formed frame is always caught, and an
exchange of offsets 4 and 5, or one added to offset 4 and taken from offset 5, never is. -/
def Obligations.ChecksumCatchesSingleByteErrors : Prop :=
  ∀ (d : Distance) (x : Byte),
    (x ≠ (frameOfDistance d).w6 →
      FrameDecoder.decode { frameOfDistance d with w6 := x } = .invalid .checksumMismatch) ∧
    (x ≠ (frameOfDistance d).w4 →
      FrameDecoder.decode { frameOfDistance d with w4 := x } = .invalid .checksumMismatch) ∧
    (x ≠ (frameOfDistance d).w5 →
      FrameDecoder.decode { frameOfDistance d with w5 := x } = .invalid .checksumMismatch) ∧
    csumOk { frameOfDistance d with w4 := (frameOfDistance d).w5, w5 := (frameOfDistance d).w4 } = true ∧
    csumOk { frameOfDistance d with w4 := (frameOfDistance d).w4 + 1, w5 := (frameOfDistance d).w5 - 1 } = true

/-- 30_encoding.md R55: the code and the distance of each outcome and of no outcome, that a consumer reads the outcome back,
that with `out_valid` 0 there is none, and that no port operation writes code 1, 6 or 7. -/
def Obligations.OutcomeCodesAsTabled : Prop :=
  (∀ d, outcomeCode (.valid d) = 0 ∧ outcomeDist (.valid d) = d) ∧
  (outcomeCode (.invalid .badMarker) = 1 ∧ outcomeCode (.invalid .wrongType) = 2 ∧
    outcomeCode (.invalid .badLength) = 3 ∧ outcomeCode (.invalid .checksumMismatch) = 4 ∧
    outcomeCode (.invalid .outOfRange) = 5) ∧
  (∀ r, outcomeDist (.invalid r) = 0) ∧
  (∀ s : State, s.emitNothing.out = ⟨false, 0, 0⟩) ∧
  (∀ o, outcomeCode o ≠ 6 ∧ outcomeCode o ≠ 7 ∧ outcomeOfOut (outOfOutcome o) = some o) ∧
  (∀ r : OutReg, r.valid = false → outcomeOfOut r = none) ∧
  ∀ (i : Instr) (s t : State), instrWindow i = none → exec i s = .next t →
    t.out.code ≠ 1 ∧ t.out.code ≠ 6 ∧ t.out.code ≠ 7

/-! ## The frame rows: calls of the decoder -/

/-- `FRAME.BADMARKER` completes in every state with `Invalid(BadMarker)`, the row's outcome (40_frame_decoder.md R71). In
every state: by R70 and 30_encoding.md R59 `decode` reads no state (log entry 5, DEDUCED). Where the outcome goes,
`returned`, is the model's choice (log entry 4). -/
def Obligations.BadMarkerFrameIsRejected : Prop :=
  ∀ (s : State) (w0 w1 w2 w3 w4 w5 w6 : Byte), w0 ≠ 0x5A ∨ w1 ≠ 0x5A →
    exec (.frameBadMarker w0 w1 w2 w3 w4 w5 w6) s = .next { s with returned := some (.invalid .badMarker) }

/-- `FRAME.WRONGTYPE` completes in every state with `Invalid(WrongType)`, whatever the later bytes (40_frame_decoder.md
R72). In every state: by R70 and 30_encoding.md R59 `decode` reads no state (log entry 5, DEDUCED). Where the outcome goes is
the model's choice (log entry 4). -/
def Obligations.WrongTypeFrameIsRejected : Prop :=
  ∀ (s : State) (typ w3 w4 w5 w6 : Byte), typ ≠ 0x45 →
    exec (.frameWrongType typ w3 w4 w5 w6) s = .next { s with returned := some (.invalid .wrongType) }

/-- `FRAME.BADLEN` completes in every state with `Invalid(BadLength)`, whatever the later bytes (40_frame_decoder.md R73).
In every state: by R70 and 30_encoding.md R59 `decode` reads no state (log entry 5, DEDUCED). Where the outcome goes is the
model's choice (log entry 4). -/
def Obligations.BadLengthFrameIsRejected : Prop :=
  ∀ (s : State) (len w4 w5 w6 : Byte), len ≠ 0x02 →
    exec (.frameBadLen len w4 w5 w6) s = .next { s with returned := some (.invalid .badLength) }

/-- `FRAME.CSUMERR` completes in every state with `Invalid(ChecksumMismatch)`, a sentinel distance among them
(40_frame_decoder.md R74). In every state: by R70 and 30_encoding.md R59 `decode` reads no state (log entry 5, DEDUCED). Where
the outcome goes is the model's choice (log entry 4). -/
def Obligations.ChecksumErrorFrameIsRejected : Prop :=
  ∀ (s : State) (hi lo csum : Byte), csum.toNat ≠ (0xFB + hi.toNat + lo.toNat) % 256 →
    exec (.frameCsumErr hi lo csum) s = .next { s with returned := some (.invalid .checksumMismatch) }

/-- `FRAME.OOR.LO` and `FRAME.OOR.HI` complete in every state with `Invalid(OutOfRange)` (40_frame_decoder.md R76). In
every state: by R70 and 30_encoding.md R59 `decode` reads no state (log entry 5, DEDUCED). Where the outcome goes is the
model's choice (log entry 4). -/
def Obligations.SentinelFramesAreOutOfRange : Prop :=
  ∀ s : State,
    exec .frameOorLo s = .next { s with returned := some (.invalid .outOfRange) } ∧
    exec .frameOorHi s = .next { s with returned := some (.invalid .outOfRange) }

/-- `FRAME.DIST` completes in every state with `Valid(dist)`, raw (40_frame_decoder.md R77). In every state: by R70 and
30_encoding.md R59 `decode` reads no state (log entry 5, DEDUCED). Where the outcome goes is the model's choice (log
entry 4). -/
def Obligations.DistanceFrameIsValid : Prop :=
  ∀ (s : State) (d : Distance) (csum : Byte), csum.toNat = (0xFB + d.toNat / 256 + d.toNat % 256) % 256 →
    d ≠ 20 → d ≠ 720 → exec (.frameDist d csum) s = .next { s with returned := some (.valid d) }

/-- 30_encoding.md R59 and 40_frame_decoder.md R70: a frame row is a call of `decode` on the window it encodes, and touches
no state of the block, whatever the session state (log entry 5, DEDUCED). Where the outcome goes is the model's choice (log
entry 4). -/
def Obligations.FrameRowsCallDecodeAndTouchNothing : Prop :=
  ∀ (f : FrameWord) (s : State), exec (decodeFrame f) s =
    .next { s with returned := some (FrameDecoder.decode (windowOfFrame f)) }

/-! ## Invariants -/

/-- 10_state.md R22 items 1 to 7, kept by every step from every state. -/
def Obligations.RestInvariantIsKept : Prop :=
  ∀ s t : State, AtRest s → step s = .next t → AtRest t

/-- 10_state.md R22: the invariant holds in the reset state, and after `RESET` in every state. -/
def Obligations.RestInvariantHoldsAfterReset : Prop :=
  AtRest State.reset ∧ ∀ s t : State, exec .reset s = .next t → RestInvariant t

/-- 10_state.md R21 and 93_implementation_defined.md U2, U11: two states that differ only in bytes nobody can observe show
the same outcomes in every run, and end in states that again differ only so. -/
def Obligations.UnobservableBytesNeverShow : Prop :=
  ∀ (ws : List ControlWord) (s t s' : State) (os : List DecodeOutcome), LooksAlike s t →
    s.run ws = some (os, s') → ∃ t', t.run ws = some (os, t') ∧ LooksAlike s' t'

/-- 60_exceptions.md R142: several instances share nothing: under any interleaving each ends and shows what it would have
alone. That an interleaving is a list of single edges, each naming its instance, is the model's choice (log entry 11). -/
def Obligations.InstancesAreIndependent : Prop :=
  ∀ (sched : List (Nat × ControlWord)) (ss ss' : List State) (os : List (Nat × DecodeOutcome)),
    runInstances sched ss = some (os, ss') → ss'.length = ss.length ∧
      ∀ (k : Nat) (s : State), ss[k]? = some s →
        ∃ s', ss'[k]? = some s' ∧ s.run (ofInstance k sched) = some (ofInstance k os, s')

/-! ## The transaction level -/

/-- 41_stream_synchronizer.md R94: the loop, iteration by iteration, to its end, and that `n - 6` iterations are enough. -/
def Obligations.ScanUnrollsAsTheLoop : Prop :=
  (∀ buf : List Byte, buf.length < 7 → StreamSynchronizer.scan buf = ([], buf)) ∧
  (∀ buf : List Byte, StreamSynchronizer.loop (buf.length - 6) buf = StreamSynchronizer.scan buf) ∧
  ∀ (b0 b1 b2 b3 b4 b5 b6 : Byte) (rest : List Byte),
    StreamSynchronizer.scan (b0 :: b1 :: b2 :: b3 :: b4 :: b5 :: b6 :: rest) =
      if ¬(b0 = 0x5A ∧ b1 = 0x5A) then StreamSynchronizer.scan (b1 :: b2 :: b3 :: b4 :: b5 :: b6 :: rest)
      else (FrameDecoder.decode ⟨b0, b1, b2, b3, b4, b5, b6⟩ :: (StreamSynchronizer.scan rest).1,
        (StreamSynchronizer.scan rest).2)

/-- 41_stream_synchronizer.md R95: after `scan` at most six bytes remain, and so between any two operations. -/
def Obligations.AtMostSixBytesAtRest : Prop :=
  (∀ buf : List Byte, (StreamSynchronizer.scan buf).2.length ≤ 6) ∧
  ∀ buf bytes : List Byte, buf.length ≤ 6 → (StreamSynchronizer.feed buf bytes).2.length ≤ 6

/-- 41_stream_synchronizer.md R96: the three branches of `push`, and that it is `scan` of the buffer with the byte
appended. -/
def Obligations.PushIsScanOfOneMoreByte : Prop :=
  (∀ (buf : List Byte) (b : Byte), buf.length < 6 → StreamSynchronizer.push buf b = (none, buf ++ [b])) ∧
  (∀ b0 b1 b2 b3 b4 b5 b : Byte, StreamSynchronizer.push [b0, b1, b2, b3, b4, b5] b =
    if b0 = 0x5A ∧ b1 = 0x5A then (some (FrameDecoder.decode ⟨b0, b1, b2, b3, b4, b5, b⟩), [])
    else (none, [b1, b2, b3, b4, b5, b])) ∧
  ∀ (buf : List Byte) (b : Byte), buf.length ≤ 6 →
    StreamSynchronizer.scan (buf ++ [b]) =
      ((StreamSynchronizer.push buf b).1.toList, (StreamSynchronizer.push buf b).2)

/-- 41_stream_synchronizer.md R97: the two forms of `feed` agree on every buffer at rest: `scan` of everything, and one push
after the other. -/
def Obligations.FeedFormsAgree : Prop :=
  ∀ buf bytes : List Byte, buf.length ≤ 6 →
    StreamSynchronizer.feedBatch buf bytes = StreamSynchronizer.scan (buf ++ bytes) ∧
    StreamSynchronizer.feedBatch buf bytes = StreamSynchronizer.feed buf bytes ∧
    (StreamSynchronizer.feed buf bytes).1.length ≤ (buf.length + bytes.length) / 7

/-- 20_memory.md R38: how the stream is cut into calls changes neither the outcomes nor the residual buffer. -/
def Obligations.CuttingTheStreamChangesNothing : Prop :=
  ∀ (buf : List Byte) (calls : List (List Byte)), buf.length ≤ 6 →
    StreamSynchronizer.feedCalls buf calls = StreamSynchronizer.feed buf calls.flatten

/-- 20_memory.md R37 (b) and 41_stream_synchronizer.md R97: each outcome costs seven bytes, so `n` bytes on a residual of
`r` give at most `(r + n) / 7` outcomes; what remains is the end of what came in, in order (10_state.md R10). -/
def Obligations.OutcomesCostSevenBytesEach : Prop :=
  ∀ buf bytes : List Byte, buf.length ≤ 6 →
    7 * (StreamSynchronizer.feed buf bytes).1.length + (StreamSynchronizer.feed buf bytes).2.length ≤
      buf.length + bytes.length ∧
    (StreamSynchronizer.feed buf bytes).2 <:+ buf ++ bytes

/-- 60_exceptions.md R132: through the synchronizer only five of the six outcomes occur: `BadMarker` never does. -/
def Obligations.NoBadMarkerFromTheStream : Prop :=
  ∀ buf bytes : List Byte, DecodeOutcome.invalid .badMarker ∉ (StreamSynchronizer.feed buf bytes).1

/-- 41_stream_synchronizer.md R99: the recovery law, with its exact precondition, in any grouping into calls. -/
def Obligations.RecoveryAfterGarbage : Prop :=
  ∀ (g : List Byte) (d : Distance),
    (∀ i, i < g.length →
      ¬((g ++ windowBytes (frameOfDistance d))[i]? = some 0x5A ∧
        (g ++ windowBytes (frameOfDistance d))[i + 1]? = some 0x5A)) →
    (∀ calls : List (List Byte), calls.flatten = g ++ windowBytes (frameOfDistance d) →
      StreamSynchronizer.feedCalls [] calls = ([FrameDecoder.decode (frameOfDistance d)], [])) ∧
    (StreamSynchronizer.feed [] (g ++ (windowBytes (frameOfDistance d)).take 6)).1 = [] ∧
    FrameDecoder.decode (frameOfDistance d) = if d = 20 ∨ d = 720 then .invalid .outOfRange else .valid d

/-- 41_stream_synchronizer.md R100: what happens when that precondition fails first at position `i`: the bytes before it
are slid out, the false window is consumed and reported, and the scan goes on seven bytes later; if the window reached into
the real frame, that frame is lost. -/
def Obligations.FalseMarkerIsConsumed : Prop :=
  ∀ (g : List Byte) (d : Distance) (i : Nat), i < g.length →
    (∀ j, j < i →
      ¬((g ++ windowBytes (frameOfDistance d))[j]? = some 0x5A ∧
        (g ++ windowBytes (frameOfDistance d))[j + 1]? = some 0x5A)) →
    (g ++ windowBytes (frameOfDistance d))[i]? = some 0x5A →
    (g ++ windowBytes (frameOfDistance d))[i + 1]? = some 0x5A →
    ∃ w, windowOfBytes ((g ++ windowBytes (frameOfDistance d)).drop i) = some w ∧
      FrameDecoder.decode w ≠ .invalid .badMarker ∧
      StreamSynchronizer.feed [] (g ++ windowBytes (frameOfDistance d)) =
        (FrameDecoder.decode w ::
            (StreamSynchronizer.feed [] ((g ++ windowBytes (frameOfDistance d)).drop (i + 7))).1,
          (StreamSynchronizer.feed [] ((g ++ windowBytes (frameOfDistance d)).drop (i + 7))).2) ∧
      (g.length < i + 7 →
        StreamSynchronizer.feed [] (g ++ windowBytes (frameOfDistance d)) =
          ([FrameDecoder.decode w], (windowBytes (frameOfDistance d)).drop (i + 7 - g.length)) ∧
        ((windowBytes (frameOfDistance d)).drop (i + 7 - g.length)).length = g.length - i)

/-- 41_stream_synchronizer.md R101: a stream of well-formed frames yields one outcome per frame, in order, each with the
frame's seventh byte, and the buffer is empty after each: `k` further bytes just wait. -/
def Obligations.AlignedStreamYieldsOneOutcomePerFrame : Prop :=
  ∀ (ds : List Distance) (d : Distance) (k : Nat), k < 7 →
    StreamSynchronizer.feed []
        (ds.flatMap (fun x => windowBytes (frameOfDistance x)) ++ (windowBytes (frameOfDistance d)).take k) =
      (ds.map (fun x => FrameDecoder.decode (frameOfDistance x)), (windowBytes (frameOfDistance d)).take k)

/-- 70_reset_and_hazards.md R158: one stray `5A` in front of well-formed frames whose checksum is `5A` keeps the block out of
step for as long as they last; the first frame with another checksum ends it, and the frame after that is decoded. -/
def Obligations.MisalignmentPersistsWhileChecksumIsSync : Prop :=
  (∀ d : Distance, (frameOfDistance d).w6 = 0x5A ↔
    d.toNat / 256 + d.toNat % 256 = 95 ∨ d.toNat / 256 + d.toNat % 256 = 351) ∧
  ∀ ds : List Distance, (∀ d ∈ ds, (frameOfDistance d).w6 = 0x5A) →
    StreamSynchronizer.feed [] (0x5A :: ds.flatMap (fun x => windowBytes (frameOfDistance x))) =
      (List.replicate ds.length (.invalid .wrongType), [0x5A]) ∧
    ∀ d e : Distance, (frameOfDistance d).w6 ≠ 0x5A →
      StreamSynchronizer.feed [] (0x5A :: (ds.flatMap (fun x => windowBytes (frameOfDistance x)) ++
          windowBytes (frameOfDistance d) ++ windowBytes (frameOfDistance e))) =
        (List.replicate (ds.length + 1) (.invalid .wrongType) ++ [FrameDecoder.decode (frameOfDistance e)], [])

/-! ## The two levels -/

/-- 42_port_operations.md R116: after a `RESET`, the port level shows the outcomes of `feed([], b1 ... bn)` and ends with its
residual buffer; after a `TERR` nothing more is shown; a later `RESET` starts again from an empty buffer. -/
def Obligations.PortRefinesFeed : Prop :=
  ∀ (r : ControlWord) (ws : List ControlWord) (s : State), r.getLsbD 10 = true → (∀ c ∈ ws, isStreamWord c = true) →
    (∃ t, s.run (r :: ws) = some ((StreamSynchronizer.feed [] (pushedBytes ws)).1, t) ∧
      t.buf = (StreamSynchronizer.feed [] (pushedBytes ws)).2) ∧
    (∀ (e : ControlWord) (vs : List ControlWord), e.getLsbD 10 = false → e.getLsbD 9 = true →
      (∀ c ∈ vs, c.getLsbD 10 = false) →
      ∃ t, s.run (r :: (ws ++ e :: vs)) = some ((StreamSynchronizer.feed [] (pushedBytes ws)).1, t)) ∧
    ∀ (before : List ControlWord) (os : List DecodeOutcome) (u : State), s.run before = some (os, u) →
      ∃ t, s.run (before ++ r :: ws) = some (os ++ (StreamSynchronizer.feed [] (pushedBytes ws)).1, t) ∧
        t.buf = (StreamSynchronizer.feed [] (pushedBytes ws)).2

/-- 30_encoding.md R59: the pseudo-operations. `FEED` of some bytes is its pushes, of none is `IDLE`; its outcomes are those
of `feed`; `NEW` is `RESET`; `DECODE` has no control word and its one word is the call of the decoder (log entry 4). -/
def Obligations.PseudoOperationsExpandAsListed : Prop :=
  (∀ (s : State) (bytes : List Byte), s.power = .live → s.fault = false → s.cnt.toNat ≤ 6 →
    ∃ t, s.run (ScriptOp.feed bytes).controlWords = some ((StreamSynchronizer.feed s.buf bytes).1, t) ∧
      t.buf = (StreamSynchronizer.feed s.buf bytes).2) ∧
  (∀ b rest, (ScriptOp.feed (b :: rest)).controlWords = (b :: rest).map fun x => 0x100 + x.setWidth 11) ∧
  (ScriptOp.feed []).controlWords = [0x000] ∧ ScriptOp.new.controlWords = [0x400] ∧
  ∀ w : Window, (ScriptOp.decode w).controlWords = [] ∧ (ScriptOp.decode w).inputs.map decodeInput = [classifyWindow w]

/-! ## The host's side -/

/-- 10_state.md R18 (c), (d): what passes between the block and the host is no state. Two states with the same block, whatever
is presented and whatever was handed back, go to states with the same block and the same result, or are refused alike; a
result is there only after a call of `decode`, no step leaves a word presented, and a call of `decode` leaves the block as
it was. The two fields are the model's own (log entries 2 and 4). -/
def Obligations.HostSideIsNoState : Prop :=
  (∀ (i : Instr) (s s' : State), s.toBlock = s'.toBlock →
    (∀ t, exec i s = .next t →
      ∃ t', exec i s' = .next t' ∧ t'.toBlock = t.toBlock ∧ t'.returned = t.returned) ∧
    ∀ r, exec i s = .refused r → exec i s' = .refused r) ∧
  (∀ (i : Instr) (s t : State), exec i s = .next t →
    (t.returned.isSome = true ↔ (instrWindow i).isSome = true) ∧
    ((instrWindow i).isSome = true → t.toBlock = s.toBlock)) ∧
  ∀ s t : State, step s = .next t → t.presented = .ctrl 0x000
end

