-- ==== Sys2Proof/Laws/Encoding.lean ====
section
/-! SUPPORT. Frame words and windows are the same bits (30_encoding.md R50), and every class carries its row's condition. -/

namespace Sys2Proof

theorem windowOfFrame_frameOfWindow (w : Window) : windowOfFrame (frameOfWindow w) = w := by
  cases w
  simp only [windowOfFrame, frameOfWindow, Window.mk.injEq]
  refine ⟨?_, ?_, ?_, ?_, ?_, ?_, ?_⟩ <;> ext i hi <;>
    grind

theorem frameOfWindow_windowOfFrame (f : FrameWord) : frameOfWindow (windowOfFrame f) = f := by
  simp only [windowOfFrame, frameOfWindow]
  ext i hi
  grind

/-- Every window is a well-formed instance of the class it is put in (30_encoding.md R53). -/
theorem classifyWindow_wf (w : Window) : (classifyWindow w).WellFormed := by
  unfold classifyWindow
  split
  · simp_all [Instr.WellFormed, Instr.wf]
  split
  · simp_all [Instr.WellFormed, Instr.wf]
  split
  · simp_all [Instr.WellFormed, Instr.wf]
  split
  · simp_all [Instr.WellFormed, Instr.wf]
  split
  · simp [Instr.WellFormed, Instr.wf]
  split
  · simp [Instr.WellFormed, Instr.wf]
  · rename_i h1 h2
    have hh : distHi (w.w4 ++ w.w5) = w.w4 := BitVec.extractLsb'_append_eq_left
    have hl : distLo (w.w4 ++ w.w5) = w.w5 := BitVec.extractLsb'_append_eq_right
    simp_all [Instr.WellFormed, Instr.wf]

end Sys2Proof
end

