-- ==== Sys2Proof/Laws/Operands.lean ====
section
/-! SUPPORT. The operands of the decoder in other forms, the signals as propositions, and the six ways `decode` can end. -/

namespace Sys2Proof.Machine

/-- The shift and or of 40_frame_decoder.md R75 is the concatenation of the two payload bytes. -/
theorem distance_eq_append (w : Window) : distance w = w.w4 ++ w.w5 := by
  unfold distance
  rw [BitVec.append_def, BitVec.shiftLeftZeroExtend_eq, BitVec.setWidth'_eq]

/-- The payload bytes of a distance put together again. -/
@[simp] theorem distHi_append_distLo (d : Distance) : (distHi d ++ distLo d : BitVec (8 + 8)) = d := by
  simp only [distHi, distLo]
  rw [BitVec.extractLsb'_append_extractLsb'_eq_extractLsb' (by decide)]
  exact BitVec.extractLsb'_eq_self

@[simp] theorem distHi_append (hi lo : Byte) : distHi (hi ++ lo) = hi :=
  BitVec.extractLsb'_append_eq_left

@[simp] theorem distLo_append (hi lo : Byte) : distLo (hi ++ lo) = lo :=
  BitVec.extractLsb'_append_eq_right

/-- The checksum of a window that selects the distance frame needs its payload alone (00_scope.md R4). -/
theorem checksum_headedWindow (hi lo csum : Byte) : checksum (headedWindow hi lo csum) = expectedCsum hi lo := rfl

theorem distance_headedWindow (hi lo csum : Byte) : distance (headedWindow hi lo csum) = hi ++ lo :=
  distance_eq_append _

@[simp] theorem markerOk_iff (a b : Byte) : markerOk a b = true ↔ a = Config.sync ∧ b = Config.sync := by
  simp [markerOk]

@[simp] theorem typeOk_iff (w : Window) : typeOk w = true ↔ w.w2 = Config.typeDist := by simp [typeOk]

@[simp] theorem lenOk_iff (w : Window) : lenOk w = true ↔ w.w3 = Config.lenDist := by simp [lenOk]

@[simp] theorem csumOk_iff (w : Window) : csumOk w = true ↔ checksum w = w.w6 := by simp [csumOk]

@[simp] theorem sentinel_iff (w : Window) :
    sentinel w = true ↔ distance w = Config.sentLo ∨ distance w = Config.sentHi := by simp [sentinel]

/-- A marked window of the right type and length is the headed window of its last three bytes. -/
theorem eq_headedWindow {w : Window} (h0 : w.w0 = Config.sync) (h1 : w.w1 = Config.sync)
    (h2 : w.w2 = Config.typeDist) (h3 : w.w3 = Config.lenDist) : w = headedWindow w.w4 w.w5 w.w6 := by
  cases w; subst h0 h1 h2 h3; rfl

/-- What `decode` answers on a window that selects the distance frame: the checksum, then the sentinels. -/
theorem decode_headedWindow (hi lo csum : Byte) :
    FrameDecoder.decode (headedWindow hi lo csum) =
      if expectedCsum hi lo = csum then
        if hi ++ lo = Config.sentLo ∨ hi ++ lo = Config.sentHi then .invalid .outOfRange else .valid (hi ++ lo)
      else .invalid .checksumMismatch := by
  have hm : markerOk (headedWindow hi lo csum).w0 (headedWindow hi lo csum).w1 = true := rfl
  have ht : typeOk (headedWindow hi lo csum) = true := rfl
  have hl : lenOk (headedWindow hi lo csum) = true := rfl
  simp only [FrameDecoder.decode, FrameDecoder.markStep, FrameDecoder.typeStep, FrameDecoder.lenStep,
    FrameDecoder.csumStep, FrameDecoder.rangeStep, FrameDecoder.validStep, hm, ht, hl, if_true, csumOk_iff,
    sentinel_iff, checksum_headedWindow, distance_headedWindow]
  rfl

/-- Everything `decode` can do: the first failing check with all the earlier ones passed, or the distance of a headed
window whose checksum is right (40_frame_decoder.md R78). -/
theorem decode_cases (w : Window) :
    (FrameDecoder.decode w = .invalid .badMarker ∧ ¬(w.w0 = Config.sync ∧ w.w1 = Config.sync)) ∨
    (w.w0 = Config.sync ∧ w.w1 = Config.sync ∧
      ((FrameDecoder.decode w = .invalid .wrongType ∧ w.w2 ≠ Config.typeDist) ∨
       (FrameDecoder.decode w = .invalid .badLength ∧ w.w2 = Config.typeDist ∧ w.w3 ≠ Config.lenDist) ∨
       (w = headedWindow w.w4 w.w5 w.w6 ∧
        ((FrameDecoder.decode w = .invalid .checksumMismatch ∧ expectedCsum w.w4 w.w5 ≠ w.w6) ∨
         (FrameDecoder.decode w = .invalid .outOfRange ∧ expectedCsum w.w4 w.w5 = w.w6 ∧
            (w.w4 ++ w.w5 = Config.sentLo ∨ w.w4 ++ w.w5 = Config.sentHi)) ∨
         (FrameDecoder.decode w = .valid (w.w4 ++ w.w5) ∧ expectedCsum w.w4 w.w5 = w.w6 ∧
            ¬(w.w4 ++ w.w5 = Config.sentLo ∨ w.w4 ++ w.w5 = Config.sentHi)))))) := by
  by_cases hm : w.w0 = Config.sync ∧ w.w1 = Config.sync
  · refine .inr ⟨hm.1, hm.2, ?_⟩
    have hm' : markerOk w.w0 w.w1 = true := by simpa using hm
    by_cases ht : w.w2 = Config.typeDist
    · have ht' : typeOk w = true := by simpa using ht
      by_cases hl : w.w3 = Config.lenDist
      · have hw := eq_headedWindow hm.1 hm.2 ht hl
        refine .inr (.inr ⟨hw, ?_⟩)
        have hd := decode_headedWindow w.w4 w.w5 w.w6
        rw [← hw] at hd
        by_cases hc : expectedCsum w.w4 w.w5 = w.w6
        · by_cases hs : w.w4 ++ w.w5 = Config.sentLo ∨ w.w4 ++ w.w5 = Config.sentHi
          · exact .inr (.inl ⟨by rw [hd, if_pos hc, if_pos hs], hc, hs⟩)
          · exact .inr (.inr ⟨by rw [hd, if_pos hc, if_neg hs], hc, hs⟩)
        · exact .inl ⟨by rw [hd, if_neg hc], hc⟩
      · refine .inr (.inl ⟨?_, ht, hl⟩)
        have hl' : ¬ lenOk w = true := by simpa using hl
        simp only [FrameDecoder.decode, FrameDecoder.markStep, FrameDecoder.typeStep, FrameDecoder.lenStep, hm', ht',
          if_true, if_neg hl']
    · refine .inl ⟨?_, ht⟩
      have ht' : ¬ typeOk w = true := by simpa using ht
      simp only [FrameDecoder.decode, FrameDecoder.markStep, FrameDecoder.typeStep, hm', if_true, if_neg ht']
  · refine .inl ⟨?_, hm⟩
    have hm' : ¬ markerOk w.w0 w.w1 = true := by simpa using hm
    simp only [FrameDecoder.decode, FrameDecoder.markStep, if_neg hm']

end Sys2Proof.Machine
end

