-- ==== Sys2Proof/Laws/State.lean ====
section
/-! SUPPORT. One lemma per field per update of the state, each true by definition, and the fields of the outcome register. -/

namespace Sys2Proof.Machine

/-! ### emit -/

@[simp] theorem State.emit_power (o : DecodeOutcome) (s : State) : (State.emit o s).power = s.power := rfl
@[simp] theorem State.emit_w (o : DecodeOutcome) (s : State) : (State.emit o s).w = s.w := rfl
@[simp] theorem State.emit_cnt (o : DecodeOutcome) (s : State) : (State.emit o s).cnt = s.cnt := rfl
@[simp] theorem State.emit_fault (o : DecodeOutcome) (s : State) : (State.emit o s).fault = s.fault := rfl
@[simp] theorem State.emit_out (o : DecodeOutcome) (s : State) : (State.emit o s).out = outOfOutcome o := rfl
@[simp] theorem State.emit_returned (o : DecodeOutcome) (s : State) : (State.emit o s).returned = none := rfl
@[simp] theorem State.emit_presented (o : DecodeOutcome) (s : State) : (State.emit o s).presented = s.presented := rfl

/-! ### emitNothing -/

@[simp] theorem State.emitNothing_power (s : State) : (State.emitNothing s).power = s.power := rfl
@[simp] theorem State.emitNothing_w (s : State) : (State.emitNothing s).w = s.w := rfl
@[simp] theorem State.emitNothing_cnt (s : State) : (State.emitNothing s).cnt = s.cnt := rfl
@[simp] theorem State.emitNothing_fault (s : State) : (State.emitNothing s).fault = s.fault := rfl
@[simp] theorem State.emitNothing_out (s : State) : (State.emitNothing s).out = OutReg.zero := rfl
@[simp] theorem State.emitNothing_returned (s : State) : (State.emitNothing s).returned = none := rfl
@[simp] theorem State.emitNothing_presented (s : State) : (State.emitNothing s).presented = s.presented := rfl

/-! ### append -/

@[simp] theorem State.append_power (b : Byte) (s : State) : (State.append b s).power = s.power := rfl
@[simp] theorem State.append_w (b : Byte) (s : State) : (State.append b s).w = s.w.setIfInBounds s.cnt.toNat b := rfl
@[simp] theorem State.append_cnt (b : Byte) (s : State) : (State.append b s).cnt = s.cnt + 1 := rfl
@[simp] theorem State.append_fault (b : Byte) (s : State) : (State.append b s).fault = s.fault := rfl
@[simp] theorem State.append_out (b : Byte) (s : State) : (State.append b s).out = s.out := rfl
@[simp] theorem State.append_returned (b : Byte) (s : State) : (State.append b s).returned = s.returned := rfl
@[simp] theorem State.append_presented (b : Byte) (s : State) : (State.append b s).presented = s.presented := rfl

/-! ### slide -/

@[simp] theorem State.slide_power (b : Byte) (s : State) : (State.slide b s).power = s.power := rfl
@[simp] theorem State.slide_w (b : Byte) (s : State) : (State.slide b s).w = #v[s.w[1], s.w[2], s.w[3], s.w[4], s.w[5], b] := rfl
@[simp] theorem State.slide_cnt (b : Byte) (s : State) : (State.slide b s).cnt = 6 := rfl
@[simp] theorem State.slide_fault (b : Byte) (s : State) : (State.slide b s).fault = s.fault := rfl
@[simp] theorem State.slide_out (b : Byte) (s : State) : (State.slide b s).out = s.out := rfl
@[simp] theorem State.slide_returned (b : Byte) (s : State) : (State.slide b s).returned = s.returned := rfl
@[simp] theorem State.slide_presented (b : Byte) (s : State) : (State.slide b s).presented = s.presented := rfl

/-! ### dropWindow -/

@[simp] theorem State.dropWindow_power (s : State) : (State.dropWindow s).power = s.power := rfl
@[simp] theorem State.dropWindow_w (s : State) : (State.dropWindow s).w = s.w := rfl
@[simp] theorem State.dropWindow_cnt (s : State) : (State.dropWindow s).cnt = 0 := rfl
@[simp] theorem State.dropWindow_fault (s : State) : (State.dropWindow s).fault = s.fault := rfl
@[simp] theorem State.dropWindow_out (s : State) : (State.dropWindow s).out = s.out := rfl
@[simp] theorem State.dropWindow_returned (s : State) : (State.dropWindow s).returned = s.returned := rfl
@[simp] theorem State.dropWindow_presented (s : State) : (State.dropWindow s).presented = s.presented := rfl

/-! ### enterHalted -/

@[simp] theorem State.enterHalted_power (s : State) : (State.enterHalted s).power = s.power := rfl
@[simp] theorem State.enterHalted_w (s : State) : (State.enterHalted s).w = s.w := rfl
@[simp] theorem State.enterHalted_cnt (s : State) : (State.enterHalted s).cnt = s.cnt := rfl
@[simp] theorem State.enterHalted_fault (s : State) : (State.enterHalted s).fault = true := rfl
@[simp] theorem State.enterHalted_out (s : State) : (State.enterHalted s).out = OutReg.zero := rfl
@[simp] theorem State.enterHalted_returned (s : State) : (State.enterHalted s).returned = none := rfl
@[simp] theorem State.enterHalted_presented (s : State) : (State.enterHalted s).presented = s.presented := rfl

/-! ### newSession -/

@[simp] theorem State.newSession_power (s : State) : (State.newSession s).power = .live := rfl
@[simp] theorem State.newSession_w (s : State) : (State.newSession s).w = s.w := rfl
@[simp] theorem State.newSession_cnt (s : State) : (State.newSession s).cnt = 0 := rfl
@[simp] theorem State.newSession_fault (s : State) : (State.newSession s).fault = false := rfl
@[simp] theorem State.newSession_out (s : State) : (State.newSession s).out = OutReg.zero := rfl
@[simp] theorem State.newSession_returned (s : State) : (State.newSession s).returned = none := rfl
@[simp] theorem State.newSession_presented (s : State) : (State.newSession s).presented = s.presented := rfl

/-! ### handBack -/

@[simp] theorem State.handBack_power (o : DecodeOutcome) (s : State) : (State.handBack o s).power = s.power := rfl
@[simp] theorem State.handBack_w (o : DecodeOutcome) (s : State) : (State.handBack o s).w = s.w := rfl
@[simp] theorem State.handBack_cnt (o : DecodeOutcome) (s : State) : (State.handBack o s).cnt = s.cnt := rfl
@[simp] theorem State.handBack_fault (o : DecodeOutcome) (s : State) : (State.handBack o s).fault = s.fault := rfl
@[simp] theorem State.handBack_out (o : DecodeOutcome) (s : State) : (State.handBack o s).out = s.out := rfl
@[simp] theorem State.handBack_returned (o : DecodeOutcome) (s : State) : (State.handBack o s).returned = some o := rfl
@[simp] theorem State.handBack_presented (o : DecodeOutcome) (s : State) : (State.handBack o s).presented = s.presented := rfl

/-! ### release -/

@[simp] theorem State.release_power (s : State) : (State.release s).power = s.power := rfl
@[simp] theorem State.release_w (s : State) : (State.release s).w = s.w := rfl
@[simp] theorem State.release_cnt (s : State) : (State.release s).cnt = s.cnt := rfl
@[simp] theorem State.release_fault (s : State) : (State.release s).fault = s.fault := rfl
@[simp] theorem State.release_out (s : State) : (State.release s).out = s.out := rfl
@[simp] theorem State.release_returned (s : State) : (State.release s).returned = s.returned := rfl
@[simp] theorem State.release_presented (s : State) : (State.release s).presented = .ctrl 0x000 := rfl

/-! ### present -/

@[simp] theorem State.present_power (x : InputWord) (s : State) : (State.present x s).power = s.power := rfl
@[simp] theorem State.present_w (x : InputWord) (s : State) : (State.present x s).w = s.w := rfl
@[simp] theorem State.present_cnt (x : InputWord) (s : State) : (State.present x s).cnt = s.cnt := rfl
@[simp] theorem State.present_fault (x : InputWord) (s : State) : (State.present x s).fault = s.fault := rfl
@[simp] theorem State.present_out (x : InputWord) (s : State) : (State.present x s).out = s.out := rfl
@[simp] theorem State.present_returned (x : InputWord) (s : State) : (State.present x s).returned = s.returned := rfl
@[simp] theorem State.present_presented (x : InputWord) (s : State) : (State.present x s).presented = x := rfl

/-! ### The block: what passes between it and the host leaves its state alone (10_state.md R18) -/

@[simp] theorem State.handBack_toBlock (o : DecodeOutcome) (s : State) : (State.handBack o s).toBlock = s.toBlock := rfl
@[simp] theorem State.release_toBlock (s : State) : (State.release s).toBlock = s.toBlock := rfl
@[simp] theorem State.present_toBlock (x : InputWord) (s : State) : (State.present x s).toBlock = s.toBlock := rfl
@[simp] theorem State.release_present (x : InputWord) (s : State) : (State.present x s).release = s.release := rfl

/-! ### The outcome register -/

@[simp] theorem OutReg.zero_valid : OutReg.zero.valid = false := rfl
@[simp] theorem OutReg.zero_code : OutReg.zero.code = 0 := rfl
@[simp] theorem OutReg.zero_dist : OutReg.zero.dist = 0 := rfl
@[simp] theorem outOfOutcome_valid (o : DecodeOutcome) : (outOfOutcome o).valid = true := rfl
@[simp] theorem outOfOutcome_code (o : DecodeOutcome) : (outOfOutcome o).code = outcomeCode o := rfl
@[simp] theorem outOfOutcome_dist (o : DecodeOutcome) : (outOfOutcome o).dist = outcomeDist o := rfl

end Sys2Proof.Machine
end

