-- ==== Sys2Proof/Laws/Ops.lean ====
section
/-! SUPPORT. What each shared operation does to the byte buffer and to what the caller sees. -/

namespace Sys2Proof.Machine

/-- An operation guarded by the power-on condition answers a next state exactly on an instance that has been reset. -/
theorem State.whenReset_eq_next {s t u : State} : s.whenReset t = .next u ↔ s.power = .live ∧ t = u := by
  unfold State.whenReset
  cases s.power <;> simp

theorem State.whenReset_live {s : State} (h : s.power = .live) (t : State) : s.whenReset t = .next t :=
  State.whenReset_eq_next.mpr ⟨h, rfl⟩

theorem State.whenReset_powerOn {s : State} (h : s.power = .powerOn) (t : State) :
    s.whenReset t = .refused .neverReset := by simp [State.whenReset, h]

/-! ### What the caller sees -/

/-- The code and the measurement of an outcome determine it. -/
theorem outcomeOfOut_outOfOutcome (o : DecodeOutcome) : outcomeOfOut (outOfOutcome o) = some o := by
  rcases o with d | r
  · rfl
  · cases r <;> rfl

@[simp] theorem State.shown_emit (o : DecodeOutcome) (s : State) : (s.emit o).shown = some o :=
  outcomeOfOut_outOfOutcome o

@[simp] theorem State.shown_emitNothing (s : State) : s.emitNothing.shown = none := rfl

@[simp] theorem State.shown_newSession (s : State) : s.newSession.shown = none := rfl

@[simp] theorem State.shown_enterHalted (s : State) : s.enterHalted.shown = none := rfl

/-! ### The byte buffer -/

@[simp] theorem State.buf_emit (o : DecodeOutcome) (s : State) : (s.emit o).buf = s.buf := rfl

@[simp] theorem State.buf_emitNothing (s : State) : s.emitNothing.buf = s.buf := rfl

@[simp] theorem State.buf_enterHalted (s : State) : s.enterHalted.buf = s.buf := rfl

@[simp] theorem State.buf_handBack (o : DecodeOutcome) (s : State) : (s.handBack o).buf = s.buf := rfl

@[simp] theorem State.buf_newSession (s : State) : s.newSession.buf = [] := rfl

@[simp] theorem State.buf_dropWindow (s : State) : s.dropWindow.buf = [] := rfl

/-- While `CNT` is legal it is the length of the buffer (10_state.md R12). -/
theorem State.buf_length {s : State} (h : s.cnt.toNat ≤ 6) : s.buf.length = s.cnt.toNat := by
  simp [State.buf, Config.bufCap, h]

/-- The six registers, when all of them are live (10_state.md R11). -/
theorem Vector_six (v : Vector Byte Config.bufCap) : v.toList = [v[0], v[1], v[2], v[3], v[4], v[5]] := by
  apply List.ext_getElem
  · simp
  · intro i h1 h2
    simp at h1 h2
    match i, h2 with
    | 0, _ => rfl
    | 1, _ => rfl
    | 2, _ => rfl
    | 3, _ => rfl
    | 4, _ => rfl
    | 5, _ => rfl

theorem State.buf_full {s : State} (h : s.cnt = 6) :
    s.buf = [s.w[0], s.w[1], s.w[2], s.w[3], s.w[4], s.w[5]] := by
  rw [State.buf, Vector_six, h]; rfl

@[simp] theorem State.buf_slide (b : Byte) (s : State) :
    (s.slide b).buf = [s.w[1], s.w[2], s.w[3], s.w[4], s.w[5], b] := rfl

/-- The append puts the byte at the tail (10_state.md R10, R11). -/
theorem State.buf_append (b : Byte) {s : State} (h : s.cnt.toNat < 6) : (s.append b).buf = s.buf ++ [b] := by
  have hc : (s.cnt + 1).toNat = s.cnt.toNat + 1 := by
    rw [BitVec.toNat_add]; simp; omega
  simp only [State.buf, State.append_w, State.append_cnt, hc, Vector.toList_setIfInBounds]
  rw [List.take_add_one, List.getElem?_set_self (by simpa using h), List.take_set_of_le (Nat.le_refl _)]
  rfl

end Sys2Proof.Machine
end

