-- ==== Sys2Proof/Laws/PerInstr.lean ====
section
/-! SUPPORT. Per instruction: the word `encode` writes carries the fixed bits of the instruction's row in
spec/opcode_table.json, its `mask` and `match`. -/

namespace Sys2Proof.Laws

/-- A window under a window of mask bytes. -/
theorem frameOfWindow_and (v m : Window) :
    frameOfWindow v &&& frameOfWindow m =
      frameOfWindow ⟨v.w0 &&& m.w0, v.w1 &&& m.w1, v.w2 &&& m.w2, v.w3 &&& m.w3, v.w4 &&& m.w4, v.w5 &&& m.w5,
        v.w6 &&& m.w6⟩ := by
  unfold frameOfWindow
  ext i hi
  simp only [BitVec.getElem_append, BitVec.getElem_and]
  grind

/-- A row whose mask and match are the windows `m` and `t`, met byte by byte. -/
theorem hasFixedBits_window (v m t : Window) (row : Nat × Nat)
    (hm : BitVec.ofNat 56 row.1 = frameOfWindow m) (ht : BitVec.ofNat 56 row.2 = frameOfWindow t)
    (h : (⟨v.w0 &&& m.w0, v.w1 &&& m.w1, v.w2 &&& m.w2, v.w3 &&& m.w3, v.w4 &&& m.w4, v.w5 &&& m.w5,
      v.w6 &&& m.w6⟩ : Window) = t) : hasFixedBits (.frame (frameOfWindow v)) row = true := by
  simp only [hasFixedBits, hm, ht, frameOfWindow_and, h, beq_self_eq_true]

/-- The word of the instruction has the fixed bits its row gives. -/
abbrev FixedBits.Statement (i : Instr) : Prop := hasFixedBits (encode i) (tableRow i) = true

theorem FixedBits.reset : FixedBits.Statement .reset := by decide
theorem FixedBits.terr : FixedBits.Statement .terr := by decide
theorem FixedBits.push (b : Byte) : FixedBits.Statement (.push b) := by
  have h : (0b001#3 ++ b : BitVec (3 + 8)) &&& (0b111#3 ++ 0x00#8 : BitVec (3 + 8)) =
      (0b001#3 ++ 0x00#8 : BitVec (3 + 8)) := by
    rw [BitVec.and_append, BitVec.and_zero, show 0b001#3 &&& 0b111#3 = 0b001#3 by decide]
  have hm : BitVec.ofNat 11 0x700 = (0b111#3 ++ 0x00#8 : BitVec (3 + 8)) := by decide
  have ht : BitVec.ofNat 11 0x100 = (0b001#3 ++ 0x00#8 : BitVec (3 + 8)) := by decide
  simp only [FixedBits.Statement, hasFixedBits, encode, instrWindow, tableRow, controlOfInstr, hm, ht, h,
    beq_self_eq_true]
theorem FixedBits.idle : FixedBits.Statement .idle := by decide
theorem FixedBits.frameBadMarker (w0 w1 w2 w3 w4 w5 w6 : Byte) :
    FixedBits.Statement (.frameBadMarker w0 w1 w2 w3 w4 w5 w6) :=
  hasFixedBits_window _ ⟨0, 0, 0, 0, 0, 0, 0⟩ ⟨0, 0, 0, 0, 0, 0, 0⟩ (0, 0) (by decide) (by decide) (by simp)
theorem FixedBits.frameWrongType (typ w3 w4 w5 w6 : Byte) :
    FixedBits.Statement (.frameWrongType typ w3 w4 w5 w6) :=
  hasFixedBits_window _ ⟨0xFF, 0xFF, 0, 0, 0, 0, 0⟩ ⟨0x5A, 0x5A, 0, 0, 0, 0, 0⟩ (0xFFFF0000000000, 0x5A5A0000000000) (by decide) (by decide)
    (by simp [markedWindow, Config.sync])
theorem FixedBits.frameBadLen (len w4 w5 w6 : Byte) : FixedBits.Statement (.frameBadLen len w4 w5 w6) :=
  hasFixedBits_window _ ⟨0xFF, 0xFF, 0xFF, 0, 0, 0, 0⟩ ⟨0x5A, 0x5A, 0x45, 0, 0, 0, 0⟩ (0xFFFFFF00000000, 0x5A5A4500000000) (by decide) (by decide)
    (by simp [typedWindow, markedWindow, Config.sync, Config.typeDist])
theorem FixedBits.frameCsumErr (hi lo csum : Byte) : FixedBits.Statement (.frameCsumErr hi lo csum) :=
  hasFixedBits_window _ ⟨0xFF, 0xFF, 0xFF, 0xFF, 0, 0, 0⟩ ⟨0x5A, 0x5A, 0x45, 0x02, 0, 0, 0⟩ (0xFFFFFFFF000000, 0x5A5A4502000000) (by decide) (by decide)
    (by simp [headedWindow, typedWindow, markedWindow, Config.sync, Config.typeDist, Config.lenDist])
theorem FixedBits.frameOorLo : FixedBits.Statement .frameOorLo := by decide
theorem FixedBits.frameOorHi : FixedBits.Statement .frameOorHi := by decide
theorem FixedBits.frameDist (dist : Distance) (csum : Byte) : FixedBits.Statement (.frameDist dist csum) :=
  FixedBits.frameCsumErr (distHi dist) (distLo dist) csum

end Sys2Proof.Laws
end

