-- ==== Sys2Proof/Laws/Port.lean ====
section
/-! SUPPORT. Everything the four port operations, and `exec` as a whole, can do. -/

namespace Sys2Proof.Machine

/-- Everything `PUSH` can do on an instance that has been reset (42_port_operations.md R112). -/
theorem State.pushed_cases (b : Byte) (s : State) :
    (s.fault = true ∧ s.pushed b = s.emitNothing) ∨
    (s.fault = false ∧ s.cnt < 6 ∧ s.pushed b = (s.append b).emitNothing) ∨
    (s.fault = false ∧ ¬ s.cnt < 6 ∧ s.headIsMarker = true ∧
      s.pushed b = s.dropWindow.emit (FrameDecoder.decode (s.window b))) ∨
    (s.fault = false ∧ ¬ s.cnt < 6 ∧ s.headIsMarker = false ∧ s.pushed b = (s.slide b).emitNothing) := by
  unfold State.pushed
  by_cases hf : s.fault = true
  · exact .inl ⟨hf, if_pos hf⟩
  have hf' : s.fault = false := by simpa using hf
  rw [if_neg hf]
  by_cases hc : s.cnt < 6
  · exact .inr (.inl ⟨hf', hc, if_pos hc⟩)
  rw [if_neg hc]
  by_cases hm : s.headIsMarker = true
  · exact .inr (.inr (.inl ⟨hf', hc, hm, if_pos hm⟩))
  · exact .inr (.inr (.inr ⟨hf', hc, by simpa using hm, if_neg hm⟩))

/-- Everything `exec` can do when it answers a next state: one case per port operation, and one for the calls of the
decoder. -/
theorem exec_next_cases {i : Instr} {s t : State} (h : exec i s = .next t) :
    (i = .reset ∧ t = s.newSession) ∨
    (i = .terr ∧ s.power = .live ∧ t = s.enterHalted) ∨
    (∃ b, i = .push b ∧ s.power = .live ∧ t = s.pushed b) ∨
    (i = .idle ∧ s.power = .live ∧ t = s.emitNothing) ∨
    (∃ w, instrWindow i = some w ∧ t = s.handBack (FrameDecoder.decode w)) := by
  cases i with
  | reset => exact .inl ⟨rfl, (Host.Outcome.next.inj h).symm⟩
  | terr =>
    obtain ⟨hp, ht⟩ := State.whenReset_eq_next.mp h
    exact .inr (.inl ⟨rfl, hp, ht.symm⟩)
  | push b =>
    obtain ⟨hp, ht⟩ := State.whenReset_eq_next.mp h
    exact .inr (.inr (.inl ⟨b, rfl, hp, ht.symm⟩))
  | idle =>
    obtain ⟨hp, ht⟩ := State.whenReset_eq_next.mp h
    exact .inr (.inr (.inr (.inl ⟨rfl, hp, ht.symm⟩)))
  | frameBadMarker | frameWrongType | frameBadLen | frameCsumErr | frameOorLo | frameOorHi | frameDist =>
    exact .inr (.inr (.inr (.inr ⟨_, rfl, (Host.Outcome.next.inj h).symm⟩)))

/-- No instruction touches the word that is presented; only the step's own release and the host do. -/
theorem exec_presented {i : Instr} {s t : State} (h : exec i s = .next t) : t.presented = s.presented := by
  rcases exec_next_cases h with ⟨_, rfl⟩ | ⟨_, _, rfl⟩ | ⟨b, _, _, rfl⟩ | ⟨_, _, rfl⟩ | ⟨_, _, rfl⟩ <;> try rfl
  rcases State.pushed_cases b s with ⟨_, h⟩ | ⟨_, _, h⟩ | ⟨_, _, _, h⟩ | ⟨_, _, _, h⟩ <;> rw [h] <;> rfl

end Sys2Proof.Machine
end

