-- ==== Sys2Proof/Laws/Synchronizer.lean ====
section
/-! SUPPORT. The scan loop: what one iteration does, and that its bound never matters (41_stream_synchronizer.md R94). -/

namespace Sys2Proof.Machine

/-- Fewer than seven bytes: nothing is examined (41_stream_synchronizer.md R91). -/
theorem StreamSynchronizer.iterate_short {buf : List Byte} (h : buf.length < 7) :
    StreamSynchronizer.iterate buf = none := by
  have hs : memRead 0 Config.frameLen buf = none := if_neg (by simpa using h)
  simp [StreamSynchronizer.iterate, StreamSynchronizer.slice, hs]

/-- Seven bytes or more: take the window if its head is the marker, else slide (41_stream_synchronizer.md R92, R93). -/
theorem StreamSynchronizer.iterate_long (b0 b1 b2 b3 b4 b5 b6 : Byte) (rest : List Byte) :
    StreamSynchronizer.iterate (b0 :: b1 :: b2 :: b3 :: b4 :: b5 :: b6 :: rest) =
      if markerOk b0 b1 = true then some (some (FrameDecoder.decode ⟨b0, b1, b2, b3, b4, b5, b6⟩), rest)
      else some (none, b1 :: b2 :: b3 :: b4 :: b5 :: b6 :: rest) := by
  have hs : memRead 0 Config.frameLen (b0 :: b1 :: b2 :: b3 :: b4 :: b5 :: b6 :: rest) =
      some [b0, b1, b2, b3, b4, b5, b6] := if_pos (by simp [Config.frameLen])
  have hm : memRead 0 2 (b0 :: b1 :: b2 :: b3 :: b4 :: b5 :: b6 :: rest) = some [b0, b1] := if_pos (by simp)
  simp only [StreamSynchronizer.iterate, StreamSynchronizer.slice, hs, windowOfBytes,
    StreamSynchronizer.headIsMarker, hm]
  rfl

/-- Seven bytes or more have the form the lemmas here speak of. -/
theorem exists_seven {buf : List Byte} (h : 7 ≤ buf.length) :
    ∃ b0 b1 b2 b3 b4 b5 b6 rest, buf = b0 :: b1 :: b2 :: b3 :: b4 :: b5 :: b6 :: rest := by
  match buf, h with
  | b0 :: b1 :: b2 :: b3 :: b4 :: b5 :: b6 :: rest, _ => exact ⟨b0, b1, b2, b3, b4, b5, b6, rest, rfl⟩

/-- Every iteration shortens the buffer. -/
theorem StreamSynchronizer.iterate_shorter {buf rest : List Byte} {o : Option DecodeOutcome}
    (h : StreamSynchronizer.iterate buf = some (o, rest)) : rest.length < buf.length := by
  by_cases hl : buf.length < 7
  · rw [StreamSynchronizer.iterate_short hl] at h; cases h
  · obtain ⟨b0, b1, b2, b3, b4, b5, b6, r, rfl⟩ := exists_seven (Nat.le_of_not_lt hl)
    rw [StreamSynchronizer.iterate_long] at h
    split at h <;> cases h
    · simp; omega
    · simp

/-- Any bound of at least the buffer's length gives the same loop. -/
theorem StreamSynchronizer.loop_bound {n m : Nat} {buf : List Byte} (hn : buf.length ≤ n) (hm : buf.length ≤ m) :
    StreamSynchronizer.loop n buf = StreamSynchronizer.loop m buf := by
  induction n generalizing m buf with
  | zero =>
    have h0 : buf = [] := List.length_eq_zero_iff.mp (Nat.le_zero.mp hn)
    subst h0
    cases m with
    | zero => rfl
    | succ m => simp [StreamSynchronizer.loop, StreamSynchronizer.iterate_short]
  | succ n ih =>
    cases hi : StreamSynchronizer.iterate buf with
    | none => cases m <;> simp [StreamSynchronizer.loop, hi]
    | some p =>
      obtain ⟨o, rest⟩ := p
      have hlt := StreamSynchronizer.iterate_shorter hi
      cases m with
      | zero => omega
      | succ m =>
        have := ih (m := m) (buf := rest) (by omega) (by omega)
        simp [StreamSynchronizer.loop, hi, this]

/-- One iteration at the head of the loop. -/
theorem StreamSynchronizer.scan_iterate {buf rest : List Byte} {o : Option DecodeOutcome}
    (h : StreamSynchronizer.iterate buf = some (o, rest)) :
    StreamSynchronizer.scan buf =
      (o.toList ++ (StreamSynchronizer.scan rest).1, (StreamSynchronizer.scan rest).2) := by
  have hlt := StreamSynchronizer.iterate_shorter h
  unfold StreamSynchronizer.scan
  cases hb : buf.length with
  | zero => omega
  | succ n =>
    rw [StreamSynchronizer.loop, h]
    simp only [StreamSynchronizer.loop_bound (n := n) (m := rest.length) (by omega) (Nat.le_refl _)]

/-- The loop's end: fewer than seven bytes. -/
theorem StreamSynchronizer.scan_done {buf : List Byte} (h : StreamSynchronizer.iterate buf = none) :
    StreamSynchronizer.scan buf = ([], buf) := by
  unfold StreamSynchronizer.scan
  cases buf with
  | nil => rfl
  | cons b rest => simp [StreamSynchronizer.loop, h]

/-- A push below six bytes only appends (41_stream_synchronizer.md R96). -/
theorem StreamSynchronizer.push_short {buf : List Byte} (h : buf.length < 6) (b : Byte) :
    StreamSynchronizer.push buf b = (none, buf ++ [b]) := if_pos h

/-- A push onto six bytes: take or slide (41_stream_synchronizer.md R96). -/
theorem StreamSynchronizer.push_full (b0 b1 b2 b3 b4 b5 b : Byte) :
    StreamSynchronizer.push [b0, b1, b2, b3, b4, b5] b =
      if markerOk b0 b1 = true then (some (FrameDecoder.decode ⟨b0, b1, b2, b3, b4, b5, b⟩), [])
      else (none, [b1, b2, b3, b4, b5, b]) := by
  have hl : ¬ [b0, b1, b2, b3, b4, b5].length < Config.bufCap := by simp
  simp only [StreamSynchronizer.push, if_neg hl, memAppend, List.cons_append, List.nil_append,
    StreamSynchronizer.iterate_long]
  by_cases hm : markerOk b0 b1 = true
  · simp only [if_pos hm]
  · simp only [if_neg hm]

end Sys2Proof.Machine
end

