-- ==== Sys2Proof/Tests/Slice0.lean ====
section
/-! SUPPORT. The model's own tests: decoding of words written out from 30_encoding.md, well-formedness, one step of each
instruction, vectors of 95_test_vectors.md, and for every statement with hypotheses a witness that meets them. -/

namespace Sys2Proof.Tests

open Sys2Proof.Machine Sys2Proof.Safety

/-- A small state: an instance in RUN with the given window registers and `CNT`, everything else as after reset. -/
def running (w : Vector Byte 6) (cnt : BitVec 3) : State := { State.reset with w := w, cnt := cnt }

/-- The same instance in HALTED. -/
def halted (w : Vector Byte 6) (cnt : BitVec 3) : State := { running w cnt with fault := true }

/-- An instance that has never been reset. -/
def unpowered : State := State.powerUp #v[1, 2, 3, 4, 5, 6] 5 true ⟨true, 7, 9⟩ (.ctrl 0x000)

/-- The first six bytes of the frame of distance 10. -/
def six : Vector Byte 6 := #v[0x5A, 0x5A, 0x45, 0x02, 0x00, 0x0A]

/-- The state an instruction leaves, where it leaves one. -/
def after (i : Instr) (s : State) : Option State :=
  match exec i s with
  | .next t => some t
  | _ => none

/-! ## Decoding: one word of every row (30_encoding.md R50, R56; 95_test_vectors.md 5.1, 5.3) -/

theorem test_decode_reset : decodeTableWord 16 0x400 = some .reset := by decide
theorem test_decode_reset_outranks : decodeTableWord 16 0x7FF = some .reset := by decide
theorem test_decode_terr : decodeTableWord 16 0x200 = some .terr := by decide
theorem test_decode_terr_outranks_byte : decodeTableWord 16 0x3FF = some .terr := by decide
theorem test_decode_push : decodeTableWord 16 0x15A = some (.push 0x5A) := by decide
theorem test_decode_idle_ignores_data : decodeTableWord 16 0x0FF = some .idle := by decide
theorem test_decode_badMarker :
    decodeTableWord 56 0x5B5A4502000A05 = some (.frameBadMarker 0x5B 0x5A 0x45 0x02 0x00 0x0A 0x05) := by decide
theorem test_decode_wrongType :
    decodeTableWord 56 0x5A5A4402000A04 = some (.frameWrongType 0x44 0x02 0x00 0x0A 0x04) := by decide
theorem test_decode_badLen :
    decodeTableWord 56 0x5A5A4503000A06 = some (.frameBadLen 0x03 0x00 0x0A 0x06) := by decide
theorem test_decode_csumErr : decodeTableWord 56 0x5A5A4502000AFF = some (.frameCsumErr 0x00 0x0A 0xFF) := by decide
theorem test_decode_oorLo : decodeTableWord 56 0x5A5A450200140F = some .frameOorLo := by decide
theorem test_decode_oorHi : decodeTableWord 56 0x5A5A450202D0CD = some .frameOorHi := by decide
theorem test_decode_dist : decodeTableWord 56 0x5A5A4502010A06 = some (.frameDist 266 0x06) := by decide
theorem test_encode_dist : encode (.frameDist 266 0x06) = .frame 0x5A5A4502010A06 := by decide
theorem test_encode_push : encode (.push 0xA5) = .ctrl 0x1A5 := by decide
theorem test_reject_format : decodeBits 8 0x00 = .error (.noSuchFormat 8) := by rfl
theorem test_reject_bit : decodeBits 16 0x800 = .error (.noSuchBit 0x800) := by rfl

/-! ## WellFormed refuses one ill-formed term for each check (30_encoding.md R53) -/

theorem test_wf_badMarker : ¬ (Instr.frameBadMarker 0x5A 0x5A 0 0 0 0 0).WellFormed := by decide
theorem test_wf_wrongType : ¬ (Instr.frameWrongType 0x45 2 0 0 0).WellFormed := by decide
theorem test_wf_badLen : ¬ (Instr.frameBadLen 0x02 0 0 0).WellFormed := by decide
theorem test_wf_csumErr : ¬ (Instr.frameCsumErr 0x00 0x0A 0x05).WellFormed := by decide
theorem test_wf_dist_csum : ¬ (Instr.frameDist 10 0x51).WellFormed := by decide
theorem test_wf_dist_sentLo : ¬ (Instr.frameDist 20 0x0F).WellFormed := by decide
theorem test_wf_dist_sentHi : ¬ (Instr.frameDist 720 0xCD).WellFormed := by decide

/-! ## The decoder (95_test_vectors.md sections 1 to 3) -/

/-- X1 as printed by the source: the checksum is wrong by the rule (90_conflicts.md C1). -/
theorem test_X1_as_printed :
    FrameDecoder.decode ⟨0x5A, 0x5A, 0x45, 0x02, 0x00, 0x0A, 0x51⟩ = .invalid .checksumMismatch := by decide
theorem test_G2_no_magnitude_test :
    FrameDecoder.decode ⟨0x5A, 0x5A, 0x45, 0x02, 0x00, 0x13, 0x0E⟩ = .valid 19 := by decide
theorem test_G10_big_endian :
    FrameDecoder.decode ⟨0x5A, 0x5A, 0x45, 0x02, 0x14, 0x00, 0x0F⟩ = .valid 5120 := by decide
theorem test_G12_carries_lost :
    FrameDecoder.decode ⟨0x5A, 0x5A, 0x45, 0x02, 0xFF, 0xFF, 0xF9⟩ = .valid 65535 := by decide
theorem test_T4_first_failure_wins :
    FrameDecoder.decode ⟨0x5A, 0x5A, 0x44, 0x03, 0x00, 0x14, 0xFF⟩ = .invalid .wrongType := by decide
theorem test_L3_length_before_range :
    FrameDecoder.decode ⟨0x5A, 0x5A, 0x45, 0x03, 0x00, 0x14, 0x10⟩ = .invalid .badLength := by decide
theorem test_K5_checksum_before_range :
    FrameDecoder.decode ⟨0x5A, 0x5A, 0x45, 0x02, 0x00, 0x14, 0xFF⟩ = .invalid .checksumMismatch := by decide

/-! ## One step of each instruction -/

/-- The example of 42_port_operations.md R111: `RESET` discards six buffered bytes. -/
theorem test_reset_discards : (after .reset (running six 6)).map State.buf = some [] := by decide
theorem test_reset_leaves_halted : (after .reset (halted six 5)).map (·.fault) = some false := by decide
/-- P3 step 7. -/
theorem test_terr_keeps_buffer :
    (after .terr (running #v[0x5A, 0x5A, 0x45, 0x02, 0x00, 0] 5)).map (fun t => (t.fault, t.buf)) =
      some (true, [0x5A, 0x5A, 0x45, 0x02, 0x00]) := by decide
/-- U3: the append to length six decides nothing. -/
theorem test_push_append_to_six :
    (after (.push 0x0A) (running #v[0x5A, 0x5A, 0x45, 0x02, 0x00, 0xEE] 5)).map (fun t => (t.buf, t.shown)) =
      some ([0x5A, 0x5A, 0x45, 0x02, 0x00, 0x0A], none) := by decide
/-- The example of 42_port_operations.md R112. -/
theorem test_push_take :
    (after (.push 0x05) (running six 6)).map (fun t => (t.out, t.cnt)) = some (⟨true, 0, 0x000A⟩, 0) := by decide
/-- U9: the slide drops one byte and keeps the arriving one. -/
theorem test_push_slide :
    (after (.push 0x0A) (running #v[0x00, 0x5A, 0x5A, 0x45, 0x02, 0x00] 6)).map (fun t => (t.buf, t.shown)) =
      some ([0x5A, 0x5A, 0x45, 0x02, 0x00, 0x0A], none) := by decide
/-- U6: out of range shows code 5 and no distance. -/
theorem test_push_sentinel :
    (after (.push 0x0F) (running #v[0x5A, 0x5A, 0x45, 0x02, 0x00, 0x14] 6)).map (·.out) =
      some ⟨true, 5, 0⟩ := by decide
/-- P3 step 8. -/
theorem test_push_ignored_in_halted :
    (after (.push 0x0A) (halted six 5)).map (fun t => (t.cnt, t.shown)) = some (5, none) := by decide
theorem test_idle_ends_the_outcome :
    (after .idle { running six 3 with out := ⟨true, 0, 10⟩ }).map (fun t => (t.out, t.cnt)) =
      some (OutReg.zero, 3) := by decide
theorem test_badMarker_returns :
    (after (.frameBadMarker 0x5A 0x5B 0x45 0x02 0x00 0x0A 0x05) State.reset).map State.returned =
      some (some (.invalid .badMarker)) := by decide
theorem test_wrongType_returns :
    (after (.frameWrongType 0x5A 0x45 0x02 0x00 0x0A) State.reset).map State.returned =
      some (some (.invalid .wrongType)) := by decide
theorem test_badLen_returns :
    (after (.frameBadLen 0x00 0x00 0x0A 0x03) State.reset).map State.returned =
      some (some (.invalid .badLength)) := by decide
theorem test_csumErr_returns :
    (after (.frameCsumErr 0x00 0x0A 0x85) State.reset).map State.returned =
      some (some (.invalid .checksumMismatch)) := by decide
theorem test_oorLo_returns :
    (after .frameOorLo State.reset).map State.returned = some (some (.invalid .outOfRange)) := by decide
theorem test_oorHi_returns :
    (after .frameOorHi State.reset).map State.returned = some (some (.invalid .outOfRange)) := by decide
theorem test_dist_returns :
    (after (.frameDist 0xFFFF 0xF9) State.reset).map State.returned = some (some (.valid 65535)) := by decide
/-- P7: a first word other than `RESET` is refused. -/
theorem test_P7_refused : exec (.push 0x5A) unpowered = .refused .neverReset := by rfl
theorem test_fetch_runs_first :
    step (State.reset.withFetchWord 16 0x15A) = exec (.push 0x5A) State.reset := by rfl

/-! ## The transaction level (95_test_vectors.md section 4) -/

/-- S5: a stray `5A` costs the frame. -/
theorem test_S5_stray_sync :
    StreamSynchronizer.feed [] [0x5A, 0x5A, 0x5A, 0x45, 0x02, 0x00, 0x0A, 0x05] =
      ([.invalid .wrongType], [0x05]) := by decide
/-- S9: a false window swallows the start of a frame. -/
theorem test_S9_false_window :
    StreamSynchronizer.scan [0x5A, 0x5A, 0x00, 0x5A, 0x5A, 0x45, 0x02, 0x00, 0x0A, 0x05] =
      ([.invalid .wrongType], [0x00, 0x0A, 0x05]) := by decide

/-! ## Scripts (30_encoding.md R58, R59) -/

theorem test_script_push :
    readScriptLine ['P', 'U', 'S', 'H', ' ', '0', 'A', ' ', ';', 'x'] = some (.push 0x0A) := by decide
theorem test_script_feed :
    readScriptLine ['F', 'E', 'E', 'D', ' ', '5', 'A', ' ', 'F', 'F'] = some (.feed [0x5A, 0xFF]) := by decide
theorem test_script_three_digits : readScriptLine ['P', 'U', 'S', 'H', ' ', '0', '0', 'A'] = none := by decide
theorem test_script_empty_feed : (ScriptOp.feed []).controlWords = [0x000] := by decide

/-! ## Witnesses: for every statement with hypotheses, states and operands that meet them together -/

theorem witness_DecodeOfEncodeIsIdentity :
    (Instr.frameDist 65535 0xF9).WellFormed ∧ (Instr.frameCsumErr 0x00 0x14 0x5B).WellFormed := by decide

theorem witness_PriorityDropsTheLosers :
    (0x7FF : ControlWord).getLsbD 10 = true ∧
    ((0x355 : ControlWord).getLsbD 10 = false ∧ (0x355 : ControlWord).getLsbD 9 = true) ∧
    ((0x0FF : ControlWord).getLsbD 10 = false ∧ (0x0FF : ControlWord).getLsbD 9 = false ∧
      (0x0FF : ControlWord).getLsbD 8 = false) := by decide

theorem witness_StepRunsTheDecodedInstruction : State.reset.presented = .ctrl 0x000 := by decide

theorem witness_PresentedWordsRunAsTheWords :
    (running six 6).presented = .ctrl 0x000 ∧ ((running six 6).drive [0x105]).map (fun r => r.1) = some [.valid 10] := by
  decide

/-- The same block behind two different host sides; one instruction that hands an outcome back and one that does not. -/
theorem witness_HostSideIsNoState :
    (running six 6).toBlock = ((running six 6).present (.ctrl 0x7FF) |>.handBack (.valid 3)).toBlock ∧
    (after (.push 5) (running six 6)).map State.returned = some none ∧
    (after .frameOorLo (running six 6)).map State.returned = some (some (.invalid .outOfRange)) ∧
    exec .idle unpowered = .refused .neverReset := ⟨by decide, by decide, by decide, rfl⟩

theorem witness_NeverResetIsRefused : unpowered.power = .powerOn := by decide

theorem witness_PowerOnIsLeftByResetOnly :
    (running six 6).power = .live ∧ (after .terr (running six 6)).isSome = true ∧
    unpowered.power = .powerOn ∧ (after .reset unpowered).map (·.power) = some .live := by decide

/-- What a call of `decode` handed back is gone after the next operation (10_state.md R18 (c)). -/
theorem test_reset_hands_nothing_back :
    (after .reset (State.reset.handBack (.valid 3))).map State.returned = some none := by decide

theorem witness_ResetForgetsTheSession :
    (after .reset (halted six 5)).isSome = true ∧ (after .reset unpowered).isSome = true := by decide

theorem witness_ResetCompletesInEveryState :
    (0x7FF : ControlWord).getLsbD 10 = true ∧ Instr.terr ≠ .reset ∧ (after .terr (halted six 5)).isSome = true ∧
    (halted six 5).fault = true := by decide

theorem witness_TerrCompletes :
    (halted six 5).power = .live ∧ (0x3FF : ControlWord).getLsbD 10 = false ∧ (0x3FF : ControlWord).getLsbD 9 = true := by
  decide
theorem witness_IdleCompletes :
    (running six 3).power = .live ∧ (0x0FF : ControlWord).getLsbD 10 = false ∧ (0x0FF : ControlWord).getLsbD 9 = false ∧
    (0x0FF : ControlWord).getLsbD 8 = false ∧ ∀ c ∈ [(0x0FF : ControlWord), 0x000], decodeControl c = .idle := by decide

/-- One state for each branch of `PUSH`, at the boundary between append and take. -/
theorem witness_PushCompletes :
    ((halted six 5).power = .live ∧ (halted six 5).fault = true) ∧
    ((running six 5).power = .live ∧ (running six 5).fault = false ∧ (running six 5).cnt < 6) ∧
    ((running six 6).power = .live ∧ ¬ (running six 6).cnt < 6 ∧ (running six 6).w[0] = 0x5A ∧
      (running six 6).w[1] = 0x5A) ∧
    ((running #v[0x5A, 0, 0, 0, 0, 0] 6).power = .live ∧ ¬ (running #v[0x5A, 0, 0, 0, 0, 0] 6).cnt < 6 ∧
      (running #v[0x5A, 0, 0, 0, 0, 0] 6).w[1] ≠ 0x5A) := by decide

theorem witness_PushRefinesBufferPush :
    (running six 6).power = .live ∧ (running six 6).fault = false ∧ (running six 6).cnt.toNat ≤ 6 := by decide

theorem witness_PushFrame :
    ((after (.push 1) (halted six 5)).isSome = true ∧ (halted six 5).fault = true) ∧
    ((after (.push 1) (running six 5)).isSome = true ∧ (running six 5).fault = false ∧ (running six 5).cnt < 6) ∧
    ((after (.push 1) (running six 6)).isSome = true ∧ (running six 6).fault = false ∧ (running six 6).cnt = 6 ∧
      (running six 6).w[0] = 0x5A ∧ (running six 6).w[1] = 0x5A) := by decide

theorem witness_ControlOperationsFrame :
    (after .reset (halted six 5)).isSome = true ∧ (after .terr (running six 5)).isSome = true ∧
    (after .idle (halted six 5)).isSome = true := by decide

theorem witness_CntMovesAsListed :
    (running six 6).cnt.toNat ≤ 6 ∧ (after .reset unpowered).isSome = true ∧ (after (.push 5) (running six 5)).map (·.cnt) = some 6 ∧
    (after (.push 5) (running six 6)).map (·.cnt) = some 0 ∧ (after .terr (running six 6)).map (·.cnt) = some 6 := by
  decide

theorem witness_FaultIsStickyUntilReset :
    ((running six 6).fault = false ∧ (after .terr (running six 6)).map (·.fault) = some true) ∧
    ((halted six 6).fault = true ∧ (after .reset (halted six 6)).map (·.fault) = some false) ∧
    (halted six 6).power = .live := by decide

theorem witness_OutIsWrittenByEveryPortOperation :
    instrWindow (.push 5) = none ∧ (after (.push 5) (running six 6)).map (·.out) = some ⟨true, 0, 10⟩ := by decide

theorem witness_OutIsNeverRead : instrWindow (.push 5) = none ∧ instrWindow .terr = none := by decide

theorem witness_FullBufferForecastsThePush :
    (running six 6).power = .live ∧ (running six 6).fault = false ∧ (running six 6).cnt = 6 := by decide

theorem witness_HaltedUntilReset :
    (halted six 5).power = .live ∧ (halted six 5).fault = true ∧
    ∀ c ∈ [(0x10A : ControlWord), 0x3FF, 0x000], c.getLsbD 10 = false := by decide

theorem witness_ChecksumCatchesSingleByteErrors :
    (0x00 : Byte) ≠ (frameOfDistance 266).w6 ∧ (0x00 : Byte) ≠ (frameOfDistance 266).w4 ∧
    (0x00 : Byte) ≠ (frameOfDistance 266).w5 := by decide

theorem witness_OutcomeCodesAsTabled :
    OutReg.zero.valid = false ∧ instrWindow (.push 0x05) = none ∧ (after (.push 0x05) (running six 6)).isSome = true := by
  decide

theorem witness_BadMarkerFrameIsRejected :
    ((0x5B : Byte) ≠ 0x5A ∨ (0x5A : Byte) ≠ 0x5A) ∧ ((0x5A : Byte) ≠ 0x5A ∨ (0x00 : Byte) ≠ 0x5A) := by decide
theorem witness_WrongTypeFrameIsRejected : (0x44 : Byte) ≠ 0x45 := by decide
theorem witness_BadLengthFrameIsRejected : (0x03 : Byte) ≠ 0x02 := by decide
theorem witness_ChecksumErrorFrameIsRejected :
    (0x5B : Byte).toNat ≠ (0xFB + (0x00 : Byte).toNat + (0x14 : Byte).toNat) % 256 := by decide
theorem witness_DistanceFrameIsValid :
    (0xF9 : Byte).toNat = (0xFB + (65535 : Distance).toNat / 256 + (65535 : Distance).toNat % 256) % 256 ∧
    (65535 : Distance) ≠ 20 ∧ (65535 : Distance) ≠ 720 := by decide

/-- An instance that shows an outcome meets the invariant, and the step from it answers a next state. -/
theorem witness_RestInvariantIsKept :
    AtRest { running six 0 with out := ⟨true, 0, 10⟩ } ∧
    ∃ t, step { running six 0 with out := ⟨true, 0, 10⟩ } = .next t :=
  ⟨fun _ => by constructor <;> decide, running six 0, rfl⟩

theorem witness_RestInvariantHoldsAfterReset : (after .reset (halted six 7)).isSome = true := by decide

/-- Two states that differ in a stale register, and two halted ones that differ in the buffer. -/
theorem witness_UnobservableBytesNeverShow :
    LooksAlike (running #v[1, 2, 3, 4, 5, 6] 2) (running #v[1, 2, 0, 0, 0, 0] 2) ∧
    LooksAlike (halted six 5) (halted six 0) ∧
    ((running #v[1, 2, 3, 4, 5, 6] 2).run [0x103]).isSome = true ∧ ((halted six 5).run [0x103]).isSome = true := by
  unfold LooksAlike; decide

theorem witness_InstancesAreIndependent :
    (runInstances [(1, 0x105)] [running six 2, running six 6]).map (fun r => r.1) = some [(1, .valid 10)] ∧
    [running six 2, running six 6][1]? = some (running six 6) := ⟨by decide, rfl⟩

theorem witness_ScanUnrollsAsTheLoop : ([1, 2, 3, 4, 5, 6] : List Byte).length < 7 := by decide
theorem witness_AtMostSixBytesAtRest : ([1, 2, 3, 4, 5, 6] : List Byte).length ≤ 6 := by decide
theorem witness_PushIsScanOfOneMoreByte : ([1, 2, 3, 4, 5] : List Byte).length < 6 ∧ ([0x5A, 0x5A, 3, 4, 5, 6] : List Byte).length ≤ 6 := by decide
theorem witness_FeedFormsAgree : ([0x5A, 0x5A, 3, 4, 5, 6] : List Byte).length ≤ 6 := by decide
theorem witness_CuttingTheStreamChangesNothing : ([0x5A, 0x5A, 3, 4, 5, 6] : List Byte).length ≤ 6 := by decide
theorem witness_OutcomesCostSevenBytesEach : ([0x5A, 0x5A, 3, 4, 5, 6] : List Byte).length ≤ 6 := by decide

/-- S14: a single `5A` inside the garbage is harmless; the calls cut the stream in two. -/
theorem witness_RecoveryAfterGarbage :
    (∀ i, i < ([0x5A, 0x00] : List Byte).length →
      ¬(([0x5A, 0x00] ++ windowBytes (frameOfDistance 10))[i]? = some 0x5A ∧
        ([0x5A, 0x00] ++ windowBytes (frameOfDistance 10))[i + 1]? = some 0x5A)) ∧
    ([[0x5A], 0x00 :: windowBytes (frameOfDistance 10)] : List (List Byte)).flatten =
      [0x5A, 0x00] ++ windowBytes (frameOfDistance 10) := by decide

/-- S5: the garbage byte `5A` pairs with the frame's first byte, and the window reaches into the frame. -/
theorem witness_FalseMarkerIsConsumed :
    0 < ([0x5A] : List Byte).length ∧
    (∀ j, j < 0 →
      ¬(([0x5A] ++ windowBytes (frameOfDistance 10))[j]? = some 0x5A ∧
        ([0x5A] ++ windowBytes (frameOfDistance 10))[j + 1]? = some 0x5A)) ∧
    ([0x5A] ++ windowBytes (frameOfDistance 10))[0]? = some 0x5A ∧
    ([0x5A] ++ windowBytes (frameOfDistance 10))[0 + 1]? = some 0x5A ∧ ([0x5A] : List Byte).length < 0 + 7 := by decide

theorem witness_AlignedStreamYieldsOneOutcomePerFrame : 6 < 7 := by decide

/-- P5: distance 95 has the checksum `5A`, distance 10 has not. -/
theorem witness_MisalignmentPersistsWhileChecksumIsSync :
    (frameOfDistance 95).w6 = 0x5A ∧ (frameOfDistance 10).w6 ≠ 0x5A := by decide

theorem witness_PortRefinesFeed :
    (0x400 : ControlWord).getLsbD 10 = true ∧ (∀ c ∈ [(0x15A : ControlWord), 0x000], isStreamWord c = true) ∧
    (0x2A5 : ControlWord).getLsbD 10 = false ∧ (0x2A5 : ControlWord).getLsbD 9 = true ∧
    (∀ c ∈ [(0x15A : ControlWord), 0x200], c.getLsbD 10 = false) ∧ (unpowered.run [0x400, 0x15A]).isSome = true := by
  decide

theorem witness_PseudoOperationsExpandAsListed :
    (running six 6).power = .live ∧ (running six 6).fault = false ∧ (running six 6).cnt.toNat ≤ 6 := by decide

end Sys2Proof.Tests
end

section
/-! SUPPORT. A run made by the machine's steps is the run of the words (00_scope.md R8, 42_port_operations.md R115). -/

namespace Sys2Proof.Machine

/-- Where the host asserts nothing there is no request to release. -/
theorem State.release_of_nothing_asserted {s : State} (h : s.presented = .ctrl 0x000) : s.release = s := by
  rw [State.release, ← h]

/-- A step on a presented control word is that word's clock edge, the request released (42_port_operations.md R115). -/
theorem step_present_ctrl (c : ControlWord) (s : State) : step (s.present (.ctrl c)) = s.release.clock c := rfl

/-- A clock edge touches no presented word, so where nothing is asserted before it nothing is asserted after it. -/
theorem State.clock_presented {c : ControlWord} {s t : State} (h : s.clock c = .next t) :
    t.presented = s.presented := exec_presented h

/-- The induction is over the words; that nothing is asserted is the invariant from edge to edge. -/
theorem State.drive_eq_run (ws : List ControlWord) {s : State} (h : s.presented = .ctrl 0x000) :
    s.drive ws = s.run ws := by
  induction ws generalizing s with
  | nil => rfl
  | cons c rest ih =>
    have hstep : step (s.present (.ctrl c)) = s.clock c := by
      rw [step_present_ctrl, State.release_of_nothing_asserted h]
    rw [State.drive, State.run, hstep]
    cases hc : s.clock c with
    | next t =>
      have ht : t.presented = .ctrl 0x000 := (State.clock_presented hc).trans h
      simp only [ih ht]
    | fault _ => rfl
    | refused _ => rfl

/-- Settles O10, by induction over the words. -/
theorem presentedWordsRunAsTheWords : Obligations.PresentedWordsRunAsTheWords :=
  fun ws _ h => State.drive_eq_run ws h

end Sys2Proof.Machine
end

section
/-! SUPPORT. Which instructions are port operations, and one rule for each branch of `PUSH`. -/

namespace Sys2Proof.Machine

/-- A frame row is none of the four port operations (30_encoding.md R56). -/
theorem not_port_of_instrWindow {i : Instr} {w : Window} (h : instrWindow i = some w) :
    i ≠ .reset ∧ i ≠ .terr ∧ i ≠ .idle ∧ ∀ b, i ≠ .push b := by
  refine ⟨?_, ?_, ?_, fun b => ?_⟩ <;> rintro rfl <;> cases h

/-- A control word selects a port operation, which has no window (30_encoding.md R56). -/
theorem instrWindow_decodeControl (c : ControlWord) : instrWindow (decodeControl c) = none := by
  unfold decodeControl
  split
  · rfl
  split
  · rfl
  split <;> rfl

/-- `PUSH` answers a next state exactly once the block has been reset (10_state.md R19). -/
theorem exec_push_eq_next {b : Byte} {s t : State} :
    exec (.push b) s = .next t ↔ s.power = .live ∧ s.pushed b = t :=
  State.whenReset_eq_next

/-- The marker detector, with the marker written out (41_stream_synchronizer.md R91). -/
theorem State.headIsMarker_iff (s : State) : s.headIsMarker = true ↔ s.w[0] = 0x5A ∧ s.w[1] = 0x5A :=
  markerOk_iff s.w[0] s.w[1]

section
variable {s : State} (b : Byte)

theorem State.pushed_of_halted (hf : s.fault = true) : s.pushed b = s.emitNothing := if_pos hf

theorem State.pushed_of_lt (hf : s.fault = false) (hc : s.cnt < 6) : s.pushed b = (s.append b).emitNothing :=
  (if_neg (by simp [hf])).trans (if_pos hc)

theorem State.pushed_of_marker (hf : s.fault = false) (hc : ¬ s.cnt < 6) (hm : s.headIsMarker = true) :
    s.pushed b = s.dropWindow.emit (FrameDecoder.decode (s.window b)) :=
  (if_neg (by simp [hf])).trans ((if_neg hc).trans (if_pos hm))

theorem State.pushed_of_not_marker (hf : s.fault = false) (hc : ¬ s.cnt < 6) (hm : s.headIsMarker = false) :
    s.pushed b = (s.slide b).emitNothing :=
  (if_neg (by simp [hf])).trans ((if_neg hc).trans (if_neg (by simp [hm])))

variable (s)

/-! ### What every branch of `PUSH` leaves unchanged -/

theorem State.pushed_frame :
    (s.pushed b).power = s.power ∧ (s.pushed b).fault = s.fault ∧ (s.pushed b).returned = none := by
  rcases State.pushed_cases b s with ⟨_, h⟩ | ⟨_, _, h⟩ | ⟨_, _, _, h⟩ | ⟨_, _, _, h⟩ <;> rw [h] <;>
    exact ⟨rfl, rfl, rfl⟩

@[simp] theorem State.pushed_power : (s.pushed b).power = s.power := (s.pushed_frame b).1

@[simp] theorem State.pushed_fault : (s.pushed b).fault = s.fault := (s.pushed_frame b).2.1

@[simp] theorem State.pushed_returned : (s.pushed b).returned = none := (s.pushed_frame b).2.2

end

/-- While the counter is below six it can count one byte more (10_state.md R12). -/
theorem cnt_succ_toNat {c : BitVec 3} (h : c < 6) : (c + 1).toNat = c.toNat + 1 := by
  bv_omega

/-- With six bytes buffered, or more, the buffer is all the window registers (10_state.md R11). -/
theorem State.buf_of_not_lt {s : State} (h : ¬ s.cnt < 6) : s.buf = s.w.toList := by
  have hc : 6 ≤ s.cnt.toNat := by bv_omega
  exact List.take_of_length_le (by simpa [Config.bufCap] using hc)

/-- A run from a first word: its edge completes, and the rest runs from where it leads. -/
theorem State.run_cons_eq_some {c : ControlWord} {ws : List ControlWord} {s s' : State} {os : List DecodeOutcome} :
    s.run (c :: ws) = some (os, s') ↔
      ∃ u os', s.clock c = .next u ∧ u.run ws = some (os', s') ∧ os = u.shown.toList ++ os' := by
  rw [State.run]
  cases hc : s.clock c with
  | next u =>
    cases hr : u.run ws with
    | none => simp [hr]
    | some r =>
      obtain ⟨os', t⟩ := r
      simp [hr]
      grind
  | fault _ => simp
  | refused _ => simp

end Sys2Proof.Machine
end

section
/-! SUPPORT. The frames, the counter, the fault and the outcome register (10_state.md R11 to R15), instruction by
instruction. -/

namespace Sys2Proof.Machine

/-- Settles O20, branch by branch: only the append writes a register without sliding. -/
theorem pushFrame : Obligations.PushFrame := by
  intro b s t h
  obtain ⟨-, rfl⟩ := exec_push_eq_next.mp h
  refine ⟨s.pushed_power b, s.pushed_fault b, s.pushed_returned b, exec_presented h, ?_, ?_, ?_⟩
  · intro hf
    rw [State.pushed_of_halted b hf]
    exact ⟨rfl, rfl⟩
  · intro hf hc
    have hlt : s.cnt.toNat < 6 := hc
    rw [State.pushed_of_lt b hf hc, State.emitNothing_w, State.append_w]
    exact ⟨Vector.getElem?_setIfInBounds_self_of_lt hlt, fun j hj => Vector.getElem_setIfInBounds_ne j.isLt hj.symm⟩
  · intro hf hc hm
    rw [State.pushed_of_marker b hf (by simp [hc]) (s.headIsMarker_iff.mpr hm)]
    rfl

/-- How the counter moves under `PUSH` in RUN (42_port_operations.md R112). -/
theorem State.pushed_cnt_of_run (b : Byte) {s : State} (hf : s.fault = false) :
    (s.cnt < 6 ∧ (s.pushed b).cnt = s.cnt + 1) ∨
    (¬ s.cnt < 6 ∧ ¬(s.w[0] = 0x5A ∧ s.w[1] = 0x5A) ∧ (s.pushed b).cnt = 6) ∨
    (¬ s.cnt < 6 ∧ s.w[0] = 0x5A ∧ s.w[1] = 0x5A ∧ (s.pushed b).cnt = 0) := by
  rcases State.pushed_cases b s with ⟨ht, _⟩ | ⟨_, hc, h⟩ | ⟨_, hc, hm, h⟩ | ⟨_, hc, hm, h⟩
  · rw [hf] at ht; cases ht
  · exact .inl ⟨hc, by rw [h]; rfl⟩
  · obtain ⟨h0, h1⟩ := s.headIsMarker_iff.mp hm
    exact .inr (.inr ⟨hc, h0, h1, by rw [h]; rfl⟩)
  · have hn : ¬(s.w[0] = 0x5A ∧ s.w[1] = 0x5A) := by rw [← s.headIsMarker_iff, hm]; decide
    exact .inr (.inl ⟨hc, hn, by rw [h]; rfl⟩)

/-- Every movement of the counter (10_state.md R12). -/
theorem exec_cnt_moves {i : Instr} {s t : State} (h : exec i s = .next t) :
    (i = .reset ∧ t.cnt = 0) ∨
    (∃ b, i = .push b ∧ s.fault = false ∧
      ((s.cnt < 6 ∧ t.cnt = s.cnt + 1) ∨
       (¬ s.cnt < 6 ∧ ¬(s.w[0] = 0x5A ∧ s.w[1] = 0x5A) ∧ t.cnt = 6) ∨
       (¬ s.cnt < 6 ∧ s.w[0] = 0x5A ∧ s.w[1] = 0x5A ∧ t.cnt = 0))) ∨
    (i ≠ .reset ∧ (s.fault = true ∨ ∀ b, i ≠ .push b) ∧ t.cnt = s.cnt) := by
  rcases exec_next_cases h with ⟨rfl, rfl⟩ | ⟨rfl, _, rfl⟩ | ⟨b, rfl, _, rfl⟩ | ⟨rfl, _, rfl⟩ | ⟨w, hw, rfl⟩
  · exact .inl ⟨rfl, rfl⟩
  · exact .inr (.inr ⟨by simp, .inr (by simp), rfl⟩)
  · cases hf : s.fault with
    | false => exact .inr (.inl ⟨b, rfl, rfl, State.pushed_cnt_of_run b hf⟩)
    | true => exact .inr (.inr ⟨by simp, .inl rfl, by rw [State.pushed_of_halted b hf]; rfl⟩)
  · exact .inr (.inr ⟨by simp, .inr (by simp), rfl⟩)
  · obtain ⟨hr, -, -, hp⟩ := not_port_of_instrWindow hw
    exact .inr (.inr ⟨hr, .inr hp, rfl⟩)

/-- No instruction takes the counter above six (10_state.md R12). -/
theorem exec_cnt_le {i : Instr} {s t : State} (h : exec i s = .next t) (hs : s.cnt.toNat ≤ 6) : t.cnt.toNat ≤ 6 := by
  rcases exec_cnt_moves h with ⟨_, ht⟩ | ⟨b, _, _, ⟨hc, ht⟩ | ⟨_, _, ht⟩ | ⟨_, _, _, ht⟩⟩ | ⟨_, _, ht⟩ <;> rw [ht]
  · decide
  · rw [cnt_succ_toNat hc]; exact hc
  · decide
  · decide
  · exact hs

/-- Settles O22: a legal counter is the length of `buf`, and the bound follows from the movements. -/
theorem cntMovesAsListed : Obligations.CntMovesAsListed :=
  ⟨fun _ => State.buf_length, fun _ _ _ => exec_cnt_le, fun _ _ _ => exec_cnt_moves⟩

/-- What becomes of the fault: `RESET` clears it, `TERR` sets it, all else keeps it (10_state.md R14). -/
theorem exec_fault_cases {i : Instr} {s t : State} (h : exec i s = .next t) :
    (i = .reset ∧ t.fault = false) ∨ (i = .terr ∧ t.fault = true) ∨
    (i ≠ .reset ∧ i ≠ .terr ∧ t.fault = s.fault) := by
  rcases exec_next_cases h with ⟨rfl, rfl⟩ | ⟨rfl, _, rfl⟩ | ⟨b, rfl, _, rfl⟩ | ⟨rfl, _, rfl⟩ | ⟨w, hw, rfl⟩
  · exact .inl ⟨rfl, rfl⟩
  · exact .inr (.inl ⟨rfl, rfl⟩)
  · exact .inr (.inr ⟨by simp, by simp, s.pushed_fault b⟩)
  · exact .inr (.inr ⟨by simp, by simp, rfl⟩)
  · obtain ⟨hr, ht, -, -⟩ := not_port_of_instrWindow hw
    exact .inr (.inr ⟨hr, ht, rfl⟩)

/-- Settles O23: the three cases of the fault, and the branch of `PUSH` in HALTED. -/
theorem faultIsStickyUntilReset : Obligations.FaultIsStickyUntilReset := by
  refine ⟨fun i s t h => ?_, fun b s hp hf => ?_⟩
  · rcases exec_fault_cases h with ⟨rfl, ht⟩ | ⟨rfl, ht⟩ | ⟨hr, hte, ht⟩
    · simp [ht, State.pins]
    · simp [ht, State.pins]
    · simp [ht, hr, hte, State.pins]
  · exact ⟨s.emitNothing, exec_push_eq_next.mpr ⟨hp, State.pushed_of_halted b hf⟩, rfl⟩

/-- Settles O24: a `PUSH` that takes the window is the one port operation that emits. -/
theorem outIsWrittenByEveryPortOperation : Obligations.OutIsWrittenByEveryPortOperation := by
  intro i s t hi h
  rcases exec_next_cases h with ⟨_, rfl⟩ | ⟨_, _, rfl⟩ | ⟨b, rfl, _, rfl⟩ | ⟨_, _, rfl⟩ | ⟨w, hw, _⟩
  · exact .inl rfl
  · exact .inl rfl
  · rcases State.pushed_cases b s with ⟨_, hp⟩ | ⟨_, _, hp⟩ | ⟨hf, hc, hm, hp⟩ | ⟨_, _, _, hp⟩ <;> rw [hp]
    · exact .inl rfl
    · exact .inl rfl
    · obtain ⟨h0, h1⟩ := s.headIsMarker_iff.mp hm
      exact .inr ⟨b, rfl, hf, hc, h0, h1, rfl⟩
    · exact .inl rfl
  · exact .inl rfl
  · rw [hi] at hw; cases hw

/-- No branch of `PUSH` reads the outcome register (10_state.md R15). -/
theorem State.pushed_with_out (b : Byte) (s : State) (r : OutReg) : State.pushed b { s with out := r } = s.pushed b :=
  rfl

/-- Settles O25: each port operation overwrites the register and reads only the others. -/
theorem outIsNeverRead : Obligations.OutIsNeverRead := by
  intro i s r hi
  cases i with
  | reset => rfl
  | terr => rfl
  | push b => exact congrArg s.whenReset (State.pushed_with_out b s r)
  | idle => rfl
  | frameBadMarker | frameWrongType | frameBadLen | frameCsumErr | frameOorLo | frameOorHi | frameDist => cases hi

/-- Settles O26: at `CNT` 6 the push takes the window or slides, as the marker detector says. -/
theorem fullBufferForecastsThePush : Obligations.FullBufferForecastsThePush := by
  intro s hp hf hc b
  have hfull : ¬ s.cnt < 6 := by simp [hc]
  refine ⟨s.pushed b, exec_push_eq_next.mpr ⟨hp, rfl⟩, ?_⟩
  rw [← s.headIsMarker_iff]
  cases hm : s.headIsMarker with
  | true => simp [State.pushed_of_marker b hf hfull hm]
  | false => simp [State.pushed_of_not_marker b hf hfull hm]

/-- Settles O11: the table's values are those that a new session writes. -/
theorem resetLeavesTheTableOfValues : Obligations.ResetLeavesTheTableOfValues :=
  ⟨⟨rfl, rfl, rfl, rfl, rfl, rfl, rfl⟩,
    fun s => ⟨s.newSession, rfl, rfl, s.buf_newSession, rfl, rfl, rfl, rfl, rfl, rfl⟩⟩

/-- Settles O13: the guard of the power-on condition stands before all but `RESET`. -/
theorem neverResetIsRefused : Obligations.NeverResetIsRefused := fun s hp =>
  ⟨State.whenReset_powerOn hp _, State.whenReset_powerOn hp _, fun _ => State.whenReset_powerOn hp _,
    s.newSession, rfl, rfl⟩

end Sys2Proof.Machine
end

section
/-! SUPPORT. What passes between the block and the host is no state (10_state.md R18). -/

namespace Sys2Proof.Machine

/-- `y` answers what `x` does, as far as the block and the result go: a next state with the same block and the same result,
or the same refusal. -/
def AnswersAlike (x y : Host.Outcome State Fault Refusal) : Prop :=
  (∀ t, x = .next t → ∃ t', y = .next t' ∧ t'.toBlock = t.toBlock ∧ t'.returned = t.returned) ∧
  ∀ r, x = .refused r → y = .refused r

theorem answersAlike_next {t t' : State} (hb : t'.toBlock = t.toBlock) (hr : t'.returned = t.returned) :
    AnswersAlike (.next t) (.next t') := by
  refine ⟨fun u hu => ?_, fun r hr => (by cases hr)⟩
  cases hu
  exact ⟨t', rfl, hb, hr⟩

/-- The guard reads the block alone (10_state.md R19). -/
theorem answersAlike_whenReset {s s' t t' : State} (hs : s.toBlock = s'.toBlock) (hb : t'.toBlock = t.toBlock)
    (hr : t'.returned = t.returned) : AnswersAlike (s.whenReset t) (s'.whenReset t') := by
  have hp : s'.power = s.power := congrArg Block.power hs.symm
  cases h : s.power with
  | powerOn =>
    rw [State.whenReset_powerOn h, State.whenReset_powerOn (hp.trans h)]
    exact ⟨fun _ ht => (by cases ht), fun _ hr => hr⟩
  | live =>
    rw [State.whenReset_live h, State.whenReset_live (hp.trans h)]
    exact answersAlike_next hb hr

/-- `PUSH` chooses its branch, and computes the block, from the block alone. -/
theorem State.pushed_toBlock_congr (b : Byte) {s s' : State} (hs : s.toBlock = s'.toBlock) :
    (s'.pushed b).toBlock = (s.pushed b).toBlock := by
  obtain ⟨blk, p, r⟩ := s
  obtain ⟨blk', p', r'⟩ := s'
  obtain rfl : blk = blk' := hs
  rcases State.pushed_cases b ⟨blk, p, r⟩ with ⟨hf, h⟩ | ⟨hf, hc, h⟩ | ⟨hf, hc, hm, h⟩ | ⟨hf, hc, hm, h⟩ <;> rw [h]
  · rw [State.pushed_of_halted (s := ⟨blk, p', r'⟩) b hf]; rfl
  · rw [State.pushed_of_lt (s := ⟨blk, p', r'⟩) b hf hc]; rfl
  · rw [State.pushed_of_marker (s := ⟨blk, p', r'⟩) b hf hc hm]; rfl
  · rw [State.pushed_of_not_marker (s := ⟨blk, p', r'⟩) b hf hc hm]; rfl

/-- No instruction reads what was presented or handed back before (10_state.md R18 (c), (d)). -/
theorem exec_answersAlike (i : Instr) {s s' : State} (hs : s.toBlock = s'.toBlock) :
    AnswersAlike (exec i s) (exec i s') := by
  cases i with
  | reset => exact answersAlike_next (by simp [State.newSession, State.emitNothing, hs]) rfl
  | terr => exact answersAlike_whenReset hs (by simp [State.enterHalted, State.emitNothing, hs]) rfl
  | push b => exact answersAlike_whenReset hs (State.pushed_toBlock_congr b hs) (by simp)
  | idle => exact answersAlike_whenReset hs (by simp [State.emitNothing, hs]) rfl
  | frameBadMarker | frameWrongType | frameBadLen | frameCsumErr | frameOorLo | frameOorHi | frameDist =>
    exact answersAlike_next hs.symm rfl

/-- A result is there exactly after a call of `decode`, which leaves the block as it was (30_encoding.md R59). -/
theorem exec_returned {i : Instr} {s t : State} (h : exec i s = .next t) :
    (t.returned.isSome = true ↔ (instrWindow i).isSome = true) ∧
    ((instrWindow i).isSome = true → t.toBlock = s.toBlock) := by
  rcases exec_next_cases h with ⟨rfl, rfl⟩ | ⟨rfl, _, rfl⟩ | ⟨b, rfl, _, rfl⟩ | ⟨rfl, _, rfl⟩ | ⟨w, hw, rfl⟩
  · simp [instrWindow]
  · simp [instrWindow]
  · simp [instrWindow]
  · simp [instrWindow]
  · simp [hw]

/-- Settles O60: each instruction reads the block alone, and the step releases the word before it runs the instruction. -/
theorem hostSideIsNoState : Obligations.HostSideIsNoState :=
  ⟨fun i _ _ hs => exec_answersAlike i hs, fun _ _ _ => exec_returned, fun _ _ h => exec_presented h⟩

end Sys2Proof.Machine
end

section
/-! SUPPORT. The invariant of the state at rest (10_state.md R22 items 1 to 7). -/

namespace Sys2Proof.Safety

open Sys2Proof.Machine

/-- The decoder on a window with the marker: never `BadMarker`, never a sentinel distance (60_exceptions.md R132). -/
theorem decode_of_marked {w : Window} (h0 : w.w0 = Config.sync) (h1 : w.w1 = Config.sync) :
    (∃ r, r ≠ .badMarker ∧ FrameDecoder.decode w = .invalid r) ∨
    ∃ d, d ≠ Config.sentLo ∧ d ≠ Config.sentHi ∧ FrameDecoder.decode w = .valid d := by
  rcases decode_cases w with ⟨_, hn⟩ | ⟨_, _, ⟨h, _⟩ | ⟨h, _⟩ | ⟨_, ⟨h, _⟩ | ⟨h, _⟩ | ⟨h, _, hs⟩⟩⟩
  · exact absurd ⟨h0, h1⟩ hn
  · exact .inl ⟨_, by decide, h⟩
  · exact .inl ⟨_, by decide, h⟩
  · exact .inl ⟨_, by decide, h⟩
  · exact .inl ⟨_, by decide, h⟩
  · obtain ⟨hlo, hhi⟩ := not_or.mp hs
    exact .inr ⟨_, hlo, hhi, h⟩

/-- A state that shows nothing needs the bound of its counter alone. -/
theorem restInvariant_of_quiet {s : State} (hc : s.cnt.toNat ≤ 6) (ho : s.out = OutReg.zero) : RestInvariant s := by
  have hv : s.out.valid ≠ true := by simp [ho]
  exact
    { cntLegal := hc
      bufLength := State.buf_length hc
      quietIsZero := fun _ => by simp [ho]
      codeReachable := fun h => absurd h hv
      noDistWithRejection := fun h => absurd h hv
      noSentinelShown := fun h => absurd h hv
      emittedEmpties := fun h => absurd h hv
      haltedIsQuiet := fun _ => by simp [ho] }

/-- What the outcome register shows of such a window (10_state.md R22 items 3 to 5). -/
theorem outcome_of_marked {w : Window} (h0 : w.w0 = Config.sync) (h1 : w.w1 = Config.sync) :
    (outcomeCode (FrameDecoder.decode w) = 0 ∨ outcomeCode (FrameDecoder.decode w) = 2 ∨
      outcomeCode (FrameDecoder.decode w) = 3 ∨ outcomeCode (FrameDecoder.decode w) = 4 ∨
      outcomeCode (FrameDecoder.decode w) = 5) ∧
    (outcomeCode (FrameDecoder.decode w) ≠ 0 → outcomeDist (FrameDecoder.decode w) = 0) ∧
    (outcomeCode (FrameDecoder.decode w) = 0 →
      outcomeDist (FrameDecoder.decode w) ≠ 20 ∧ outcomeDist (FrameDecoder.decode w) ≠ 720) := by
  rcases decode_of_marked h0 h1 with ⟨r, hr, h⟩ | ⟨d, hlo, hhi, h⟩ <;> rw [h]
  · cases r with
    | badMarker => exact absurd rfl hr
    | wrongType | badLength | checksumMismatch | outOfRange => decide
  · exact ⟨.inl rfl, fun hn => absurd rfl hn, fun _ => ⟨hlo, hhi⟩⟩

/-- A marked window taken in RUN: what it shows is an outcome of the decoder on a marked window. -/
theorem restInvariant_of_taken {s : State} {w : Window} (hf : s.fault = false) (h0 : w.w0 = Config.sync)
    (h1 : w.w1 = Config.sync) : RestInvariant (s.dropWindow.emit (FrameDecoder.decode w)) := by
  obtain ⟨hcode, hrejected, hvalid⟩ := outcome_of_marked h0 h1
  exact
    { cntLegal := by simp
      bufLength := by simp
      quietIsZero := by simp
      codeReachable := fun _ => hcode
      noDistWithRejection := fun _ => hrejected
      noSentinelShown := fun _ => hvalid
      emittedEmpties := fun _ => rfl
      haltedIsQuiet := by simp [hf] }

/-- The invariant speaks of the block alone. -/
theorem restInvariant_of_toBlock_eq {s t : State} (hb : t.toBlock = s.toBlock) (h : RestInvariant s) :
    RestInvariant t := by
  obtain ⟨blk, p, r⟩ := s
  obtain ⟨blk', p', r'⟩ := t
  obtain rfl : blk' = blk := hb
  exact ⟨h.cntLegal, h.bufLength, h.quietIsZero, h.codeReachable, h.noDistWithRejection, h.noSentinelShown,
    h.emittedEmpties, h.haltedIsQuiet⟩

/-- A port operation leaves the invariant whatever `OUT` was before, for a legal counter. -/
theorem restInvariant_of_port {i : Instr} {s t : State} (hi : instrWindow i = none) (hs : s.cnt.toNat ≤ 6)
    (h : exec i s = .next t) : RestInvariant t := by
  have ht : t.cnt.toNat ≤ 6 := exec_cnt_le h hs
  rcases exec_next_cases h with ⟨_, rfl⟩ | ⟨_, _, rfl⟩ | ⟨b, rfl, _, rfl⟩ | ⟨_, _, rfl⟩ | ⟨w, hw, _⟩
  · exact restInvariant_of_quiet ht rfl
  · exact restInvariant_of_quiet ht rfl
  · rcases State.pushed_cases b s with ⟨_, hp⟩ | ⟨_, _, hp⟩ | ⟨hf, _, hm, hp⟩ | ⟨_, _, _, hp⟩
    · exact restInvariant_of_quiet ht (by rw [hp]; rfl)
    · exact restInvariant_of_quiet ht (by rw [hp]; rfl)
    · obtain ⟨h0, h1⟩ := s.headIsMarker_iff.mp hm
      rw [hp]
      exact restInvariant_of_taken hf h0 h1
    · exact restInvariant_of_quiet ht (by rw [hp]; rfl)
  · exact restInvariant_of_quiet ht rfl
  · rw [hi] at hw; cases hw

/-- After `RESET` nothing is shown and the counter is 0, whatever the state before (10_state.md R20). -/
theorem restInvariant_newSession (s : State) : RestInvariant s.newSession :=
  restInvariant_of_quiet (by simp) rfl

/-- Every instruction keeps the invariant; only `RESET` brings a block into its domain. -/
theorem atRest_exec {i : Instr} {s t : State} (hs : AtRest s) (h : exec i s = .next t) : AtRest t := by
  intro hlive
  rcases exec_next_cases h with ⟨_, rfl⟩ | ⟨rfl, hp, _⟩ | ⟨b, rfl, hp, _⟩ | ⟨rfl, hp, _⟩ | ⟨w, _, rfl⟩
  · exact restInvariant_newSession s
  · exact restInvariant_of_port rfl (hs hp).cntLegal h
  · exact restInvariant_of_port rfl (hs hp).cntLegal h
  · exact restInvariant_of_port rfl (hs hp).cntLegal h
  · exact restInvariant_of_toBlock_eq (s.handBack_toBlock _) (hs hlive)

/-- Settles O43: a step is an instruction on the state with the request released. -/
theorem restInvariantIsKept : Obligations.RestInvariantIsKept :=
  fun s _ hs h => atRest_exec (fun hp => restInvariant_of_toBlock_eq s.release_toBlock (hs hp)) h

/-- Settles O44: a reset block shows nothing and its counter is 0. -/
theorem restInvariantHoldsAfterReset : Obligations.RestInvariantHoldsAfterReset := by
  refine ⟨fun _ => restInvariant_of_quiet (by decide) rfl, fun s t h => ?_⟩
  obtain rfl : s.newSession = t := Host.Outcome.next.inj h
  exact restInvariant_newSession s

end Sys2Proof.Safety
end

section
/-! SUPPORT. Stale window registers and the buffer of a halted session never show (10_state.md R21,
93_implementation_defined.md U2, U11). -/

namespace Sys2Proof.Safety

open Sys2Proof.Machine

/-- Once it has been reset, a block shows what its look-alike shows. -/
theorem looksAlike_shown {s t : State} (h : LooksAlike s t) (hp : s.power = .live) : s.shown = t.shown := by
  obtain ⟨-, hlive⟩ := h
  obtain ⟨-, hout, -⟩ := hlive hp
  exact congrArg outcomeOfOut hout

/-- Two new sessions look alike, whatever was before (20_memory.md R39). -/
theorem looksAlike_newSession (s t : State) : LooksAlike s.newSession t.newSession :=
  ⟨rfl, fun _ => ⟨rfl, rfl, fun _ => ⟨rfl, rfl⟩⟩⟩

/-- In HALTED the buffer is beyond observation (93_implementation_defined.md U11). -/
theorem looksAlike_enterHalted {s t : State} (h : LooksAlike s t) : LooksAlike s.enterHalted t.enterHalted :=
  ⟨h.1, fun _ => ⟨rfl, rfl, fun hf => (by cases hf)⟩⟩

theorem looksAlike_emitNothing {s t : State} (h : LooksAlike s t) : LooksAlike s.emitNothing t.emitNothing := by
  obtain ⟨hpow, hlive⟩ := h
  refine ⟨hpow, fun hp => ?_⟩
  obtain ⟨hfault, -, hbuf⟩ := hlive hp
  exact ⟨hfault, rfl, hbuf⟩

/-- Two buffers of six or more bytes that are equal fill equal window registers: then no register is stale. -/
theorem w_eq_of_buf_eq {s t : State} (hs : ¬ s.cnt < 6) (ht : ¬ t.cnt < 6) (h : s.buf = t.buf) : s.w = t.w := by
  rw [State.buf_of_not_lt hs, State.buf_of_not_lt ht] at h
  exact Vector.toList_inj.mp h

/-- `PUSH` keeps the likeness: below six bytes it appends to equal buffers, and with six it reads registers that are all
live. -/
theorem looksAlike_pushed (b : Byte) {s t : State} (h : LooksAlike s t) (hp : s.power = .live) :
    LooksAlike (s.pushed b) (t.pushed b) := by
  have ⟨hpow, hlive⟩ := h
  obtain ⟨hfault, -, hrun⟩ := hlive hp
  cases hf : s.fault with
  | true =>
    rw [State.pushed_of_halted b hf, State.pushed_of_halted b (hfault ▸ hf)]
    exact looksAlike_emitNothing h
  | false =>
    have hft : t.fault = false := hfault ▸ hf
    obtain ⟨hcnt, hbuf⟩ := hrun hf
    refine ⟨by simpa using hpow, fun _ => ?_⟩
    by_cases hc : s.cnt < 6
    · have hct : t.cnt < 6 := hcnt ▸ hc
      rw [State.pushed_of_lt b hf hc, State.pushed_of_lt b hft hct]
      refine ⟨hfault, rfl, fun _ => ⟨by simp [hcnt], ?_⟩⟩
      rw [State.buf_emitNothing, State.buf_emitNothing, State.buf_append b hc, State.buf_append b hct, hbuf]
    · have hct : ¬ t.cnt < 6 := hcnt ▸ hc
      have hw : s.w = t.w := w_eq_of_buf_eq hc hct hbuf
      have hhead : s.headIsMarker = t.headIsMarker := by rw [State.headIsMarker, State.headIsMarker, hw]
      cases hm : s.headIsMarker with
      | true =>
        rw [State.pushed_of_marker b hf hc hm, State.pushed_of_marker b hft hct (hhead ▸ hm)]
        exact ⟨hfault, by simp [State.window, hw], fun _ => ⟨rfl, rfl⟩⟩
      | false =>
        rw [State.pushed_of_not_marker b hf hc hm, State.pushed_of_not_marker b hft hct (hhead ▸ hm)]
        exact ⟨hfault, rfl, fun _ => ⟨rfl, by simp [hw]⟩⟩

/-- A clock edge that one of two look-alikes takes, the other takes too; both have then been reset and look alike. -/
theorem looksAlike_clock {c : ControlWord} {s t s' : State} (h : LooksAlike s t) (hs : s.clock c = .next s') :
    ∃ t', t.clock c = .next t' ∧ s'.power = .live ∧ LooksAlike s' t' := by
  have hguard (hp : s.power = .live) (u : State) : t.whenReset u = .next u := State.whenReset_live (h.1 ▸ hp) u
  unfold State.clock at hs ⊢
  rcases exec_next_cases hs with ⟨hi, rfl⟩ | ⟨hi, hp, rfl⟩ | ⟨b, hi, hp, rfl⟩ | ⟨hi, hp, rfl⟩ | ⟨w, hw, _⟩
  · rw [hi]; exact ⟨_, rfl, rfl, looksAlike_newSession s t⟩
  · rw [hi]; exact ⟨_, hguard hp _, hp, looksAlike_enterHalted h⟩
  · rw [hi]; exact ⟨_, hguard hp _, by simp [hp], looksAlike_pushed b h hp⟩
  · rw [hi]; exact ⟨_, hguard hp _, hp, looksAlike_emitNothing h⟩
  · rw [instrWindow_decodeControl] at hw; cases hw

/-- Settles O45, by induction over the words: each edge keeps the likeness, and look-alikes show the same. -/
theorem unobservableBytesNeverShow : Obligations.UnobservableBytesNeverShow := by
  intro ws
  induction ws with
  | nil =>
    intro s t s' os h hs
    cases hs
    exact ⟨t, rfl, h⟩
  | cons c ws ih =>
    intro s t s' os h hs
    obtain ⟨u, os', hc, hr, rfl⟩ := State.run_cons_eq_some.mp hs
    obtain ⟨v, hv, hlive, huv⟩ := looksAlike_clock h hc
    obtain ⟨t', ht', hst⟩ := ih u v s' os' huv hr
    exact ⟨t', State.run_cons_eq_some.mpr ⟨v, os', hv, ht', by rw [looksAlike_shown huv hlive]⟩, hst⟩

end Sys2Proof.Safety
end

section
/-! SUPPORT. Feeding the buffer: everything a push can do, the two forms of `feed`, and how a stream is cut into calls
(20_memory.md R37, R38, 41_stream_synchronizer.md R96, R97). -/

namespace Sys2Proof.Machine

/-- With seven bytes or more the loop goes on (41_stream_synchronizer.md R94). -/
theorem StreamSynchronizer.exists_iterate {buf : List Byte} (h : 7 ≤ buf.length) :
    ∃ o rest, StreamSynchronizer.iterate buf = some (o, rest) := by
  obtain ⟨b0, b1, b2, b3, b4, b5, b6, tail, rfl⟩ := exists_seven h
  rw [StreamSynchronizer.iterate_long]
  split
  · exact ⟨_, _, rfl⟩
  · exact ⟨_, _, rfl⟩

/-- Everything an iteration can do: there are seven bytes, and it takes them as a window or slides by one
(41_stream_synchronizer.md R92, R93). -/
theorem StreamSynchronizer.iterate_cases {buf rest : List Byte} {o : Option DecodeOutcome}
    (h : StreamSynchronizer.iterate buf = some (o, rest)) :
    ∃ b0 b1 b2 b3 b4 b5 b6 tail, buf = b0 :: b1 :: b2 :: b3 :: b4 :: b5 :: b6 :: tail ∧
      ((markerOk b0 b1 = true ∧ o = some (FrameDecoder.decode ⟨b0, b1, b2, b3, b4, b5, b6⟩) ∧ rest = tail) ∨
       (markerOk b0 b1 = false ∧ o = none ∧ rest = b1 :: b2 :: b3 :: b4 :: b5 :: b6 :: tail)) := by
  by_cases hl : buf.length < 7
  · rw [StreamSynchronizer.iterate_short hl] at h; cases h
  · obtain ⟨b0, b1, b2, b3, b4, b5, b6, tail, rfl⟩ := exists_seven (Nat.le_of_not_lt hl)
    refine ⟨b0, b1, b2, b3, b4, b5, b6, tail, rfl, ?_⟩
    rw [StreamSynchronizer.iterate_long] at h
    cases hm : markerOk b0 b1 with
    | true => rw [if_pos hm] at h; cases h; exact .inl ⟨rfl, rfl, rfl⟩
    | false => rw [if_neg (by simp [hm])] at h; cases h; exact .inr ⟨rfl, rfl, rfl⟩

/-- An iteration looks at the head alone: bytes that come behind wait. -/
theorem StreamSynchronizer.iterate_append {buf rest : List Byte} {o : Option DecodeOutcome}
    (h : StreamSynchronizer.iterate buf = some (o, rest)) (more : List Byte) :
    StreamSynchronizer.iterate (buf ++ more) = some (o, rest ++ more) := by
  obtain ⟨b0, b1, b2, b3, b4, b5, b6, tail, rfl, ⟨hm, rfl, rfl⟩ | ⟨hm, rfl, rfl⟩⟩ :=
    StreamSynchronizer.iterate_cases h <;>
  simp [StreamSynchronizer.iterate_long, hm]

/-- An iteration pays seven bytes for an outcome, and what it leaves is the end of the buffer. -/
theorem StreamSynchronizer.iterate_cost {buf rest : List Byte} {o : Option DecodeOutcome}
    (h : StreamSynchronizer.iterate buf = some (o, rest)) :
    7 * o.toList.length + rest.length ≤ buf.length ∧ rest <:+ buf := by
  obtain ⟨b0, b1, b2, b3, b4, b5, b6, tail, rfl, ⟨-, rfl, rfl⟩ | ⟨-, rfl, rfl⟩⟩ :=
    StreamSynchronizer.iterate_cases h
  · exact ⟨by simp; omega, List.suffix_append [b0, b1, b2, b3, b4, b5, b6] _⟩
  · exact ⟨by simp, List.suffix_cons b0 _⟩

/-- Everything a push can do: append below six bytes, else one iteration with the byte appended
(41_stream_synchronizer.md R96). -/
theorem StreamSynchronizer.push_cases (buf : List Byte) (b : Byte) :
    (buf.length < 6 ∧ StreamSynchronizer.push buf b = (none, buf ++ [b])) ∨
    (∃ o rest, StreamSynchronizer.iterate (buf ++ [b]) = some (o, rest) ∧
      StreamSynchronizer.push buf b = (o, rest)) := by
  by_cases hl : buf.length < 6
  · exact .inl ⟨hl, StreamSynchronizer.push_short hl b⟩
  · obtain ⟨o, rest, hi⟩ := StreamSynchronizer.exists_iterate (buf := buf ++ [b]) (by simp; omega)
    exact .inr ⟨o, rest, hi, by rw [StreamSynchronizer.push, if_neg hl, memAppend, hi]⟩

/-- A push leaves a buffer at rest (41_stream_synchronizer.md R95). -/
theorem StreamSynchronizer.push_length_le {buf : List Byte} (h : buf.length ≤ 6) (b : Byte) :
    (StreamSynchronizer.push buf b).2.length ≤ 6 := by
  rcases StreamSynchronizer.push_cases buf b with ⟨hl, hp⟩ | ⟨o, rest, hi, hp⟩ <;> rw [hp]
  · simpa using hl
  · have hlt : rest.length < (buf ++ [b]).length := StreamSynchronizer.iterate_shorter hi
    rw [List.length_append, List.length_singleton] at hlt
    exact (Nat.le_of_lt_succ hlt).trans h

/-- The scan with one byte more and others behind it begins with that byte's push. -/
theorem StreamSynchronizer.scan_push (buf : List Byte) (b : Byte) (more : List Byte) :
    StreamSynchronizer.scan (buf ++ b :: more) =
      ((StreamSynchronizer.push buf b).1.toList ++
          (StreamSynchronizer.scan ((StreamSynchronizer.push buf b).2 ++ more)).1,
        (StreamSynchronizer.scan ((StreamSynchronizer.push buf b).2 ++ more)).2) := by
  have hsplit : buf ++ b :: more = (buf ++ [b]) ++ more := List.append_cons ..
  rcases StreamSynchronizer.push_cases buf b with ⟨_, hp⟩ | ⟨o, rest, hi, hp⟩ <;> rw [hp, hsplit]
  · rfl
  · exact StreamSynchronizer.scan_iterate (StreamSynchronizer.iterate_append hi more)

/-- The two forms of `feed` agree on a buffer at rest (41_stream_synchronizer.md R97). -/
theorem StreamSynchronizer.feedBatch_eq_feed (bytes : List Byte) {buf : List Byte} (h : buf.length ≤ 6) :
    StreamSynchronizer.feedBatch buf bytes = StreamSynchronizer.feed buf bytes := by
  unfold StreamSynchronizer.feedBatch
  induction bytes generalizing buf with
  | nil =>
    rw [List.append_nil]
    exact StreamSynchronizer.scan_done (StreamSynchronizer.iterate_short (Nat.lt_succ_of_le h))
  | cons b rest ih =>
    rw [StreamSynchronizer.scan_push, ih (StreamSynchronizer.push_length_le h b), StreamSynchronizer.feed]

/-- A feed leaves a buffer at rest (41_stream_synchronizer.md R95). -/
theorem StreamSynchronizer.feed_length_le (bytes : List Byte) {buf : List Byte} (h : buf.length ≤ 6) :
    (StreamSynchronizer.feed buf bytes).2.length ≤ 6 := by
  induction bytes generalizing buf with
  | nil => exact h
  | cons b rest ih => exact ih (StreamSynchronizer.push_length_le h b)

/-- Feeding two stretches of bytes is feeding the first and then, on what it leaves, the second. -/
theorem StreamSynchronizer.feed_append (xs ys : List Byte) (buf : List Byte) :
    StreamSynchronizer.feed buf (xs ++ ys) =
      ((StreamSynchronizer.feed buf xs).1 ++
          (StreamSynchronizer.feed (StreamSynchronizer.feed buf xs).2 ys).1,
        (StreamSynchronizer.feed (StreamSynchronizer.feed buf xs).2 ys).2) := by
  induction xs generalizing buf with
  | nil => rfl
  | cons b xs ih => simp [StreamSynchronizer.feed, ih]

/-- Settles O51, by induction over the calls: each is a feed in the other form, and leaves a buffer at rest for the next. -/
theorem cuttingTheStreamChangesNothing : Obligations.CuttingTheStreamChangesNothing := by
  intro buf calls h
  induction calls generalizing buf with
  | nil => rfl
  | cons bytes rest ih =>
    rw [StreamSynchronizer.feedCalls, StreamSynchronizer.feedBatch_eq_feed bytes h,
      ih _ (StreamSynchronizer.feed_length_le bytes h), List.flatten_cons, StreamSynchronizer.feed_append]

/-- A push pays seven bytes for an outcome, and what it leaves is the end of what came in. -/
theorem StreamSynchronizer.push_cost (buf : List Byte) (b : Byte) :
    7 * (StreamSynchronizer.push buf b).1.toList.length + (StreamSynchronizer.push buf b).2.length ≤ buf.length + 1 ∧
    (StreamSynchronizer.push buf b).2 <:+ buf ++ [b] := by
  rcases StreamSynchronizer.push_cases buf b with ⟨_, hp⟩ | ⟨o, rest, hi, hp⟩ <;> rw [hp]
  · exact ⟨by simp, List.suffix_rfl⟩
  · simpa using StreamSynchronizer.iterate_cost hi

/-- The cost of a feed, over its pushes; it does not need the buffer to be at rest. -/
theorem StreamSynchronizer.feed_cost (bytes buf : List Byte) :
    7 * (StreamSynchronizer.feed buf bytes).1.length + (StreamSynchronizer.feed buf bytes).2.length ≤
      buf.length + bytes.length ∧
    (StreamSynchronizer.feed buf bytes).2 <:+ buf ++ bytes := by
  induction bytes generalizing buf with
  | nil => simp [StreamSynchronizer.feed]
  | cons b rest ih =>
    obtain ⟨hpush, front, hfront⟩ := StreamSynchronizer.push_cost buf b
    obtain ⟨hrest, hend⟩ := ih (StreamSynchronizer.push buf b).2
    rw [StreamSynchronizer.feed]
    refine ⟨by simp only [List.length_append, List.length_cons]; omega, hend.trans ?_⟩
    exact ⟨front, by rw [← List.append_assoc, hfront, ← List.append_cons]⟩

/-- Settles O52, by the cost of each push. -/
theorem outcomesCostSevenBytesEach : Obligations.OutcomesCostSevenBytesEach :=
  fun buf bytes _ => StreamSynchronizer.feed_cost bytes buf

end Sys2Proof.Machine
end

section
/-! SUPPORT. `RESET` ends a session without a trace (20_memory.md R39). -/

namespace Sys2Proof.Safety

open Sys2Proof.Machine

/-- Settles O15: both states become new sessions, which look alike. -/
theorem resetForgetsTheSession : Obligations.ResetForgetsTheSession := by
  intro s t s' t' hs ht
  obtain rfl : s.newSession = s' := Host.Outcome.next.inj hs
  obtain rfl : t.newSession = t' := Host.Outcome.next.inj ht
  exact ⟨looksAlike_newSession s t, s.newSession_returned, t.newSession_returned⟩

end Sys2Proof.Safety
end

section
/-! SUPPORT. The operation a control word selects, by its strobes and by the mask and match of its row, and the canonical
word of each row (30_encoding.md R56, R57). -/

namespace Sys2Proof

open Sys2Proof.Machine

section
variable {c : ControlWord}

/-! ### The priority of the strobes -/

theorem decodeControl_of_rst (hr : c.getLsbD 10 = true) : decodeControl c = .reset := if_pos hr

theorem decodeControl_of_err (hr : c.getLsbD 10 = false) (he : c.getLsbD 9 = true) : decodeControl c = .terr :=
  (if_neg (ne_true_of_eq_false hr)).trans (if_pos he)

theorem decodeControl_of_valid (hr : c.getLsbD 10 = false) (he : c.getLsbD 9 = false) (hv : c.getLsbD 8 = true) :
    decodeControl c = .push (c.extractLsb' 0 8) :=
  (if_neg (ne_true_of_eq_false hr)).trans ((if_neg (ne_true_of_eq_false he)).trans (if_pos hv))

theorem decodeControl_of_no_strobe (hr : c.getLsbD 10 = false) (he : c.getLsbD 9 = false)
    (hv : c.getLsbD 8 = false) : decodeControl c = .idle :=
  (if_neg (ne_true_of_eq_false hr)).trans ((if_neg (ne_true_of_eq_false he)).trans (if_neg (ne_true_of_eq_false hv)))

variable (c)

/-- The four rows, with the strobes that select each: they cover all words and do not overlap. -/
theorem decodeControl_cases :
    (c.getLsbD 10 = true ∧ decodeControl c = .reset) ∨
    (c.getLsbD 10 = false ∧ c.getLsbD 9 = true ∧ decodeControl c = .terr) ∨
    (c.getLsbD 10 = false ∧ c.getLsbD 9 = false ∧ c.getLsbD 8 = true ∧
      decodeControl c = .push (c.extractLsb' 0 8)) ∨
    (c.getLsbD 10 = false ∧ c.getLsbD 9 = false ∧ c.getLsbD 8 = false ∧ decodeControl c = .idle) := by
  cases hr : c.getLsbD 10 with
  | true => exact .inl ⟨rfl, decodeControl_of_rst hr⟩
  | false =>
    cases he : c.getLsbD 9 with
    | true => exact .inr (.inl ⟨rfl, rfl, decodeControl_of_err hr he⟩)
    | false =>
      cases hv : c.getLsbD 8 with
      | true => exact .inr (.inr (.inl ⟨rfl, rfl, rfl, decodeControl_of_valid hr he hv⟩))
      | false => exact .inr (.inr (.inr ⟨rfl, rfl, rfl, decodeControl_of_no_strobe hr he hv⟩))

/-! ### Masks over the strobes -/

/-- A control word is its three strobes before its data byte (30_encoding.md R56, format `CTRL11`). -/
theorem strobes_append_data : (c.extractLsb' 8 3 ++ c.extractLsb' 0 8 : BitVec (3 + 8)) = c :=
  BitVec.extractLsb'_append_extractLsb'

/-- A mask and match that leave the data byte open are met by the strobes alone, bit by bit. -/
theorem and_strobeMask_iff (m t : BitVec 3) :
    c &&& (m ++ 0#8 : BitVec (3 + 8)) = (t ++ 0#8 : BitVec (3 + 8)) ↔
      (c.getLsbD 10 && m.getLsbD 2) = t.getLsbD 2 ∧ (c.getLsbD 9 && m.getLsbD 1) = t.getLsbD 1 ∧
        (c.getLsbD 8 && m.getLsbD 0) = t.getLsbD 0 := by
  have hstrobes : c &&& (m ++ 0#8 : BitVec (3 + 8)) = (t ++ 0#8 : BitVec (3 + 8)) ↔ c.extractLsb' 8 3 &&& m = t := by
    conv_lhs => rw [← strobes_append_data c, BitVec.and_append, BitVec.and_zero]
    exact BitVec.append_left_inj 0#8
  rw [hstrobes, BitVec.eq_of_getLsbD_eq_iff]
  constructor
  · intro h
    exact ⟨by simpa using h 2, by simpa using h 1, by simpa using h 0⟩
  · rintro ⟨hr, he, hv⟩ i hi
    interval_cases i
    · simpa using hv
    · simpa using he
    · simpa using hr

theorem meets_reset_iff : c &&& 0x400 = 0x400 ↔ c.getLsbD 10 = true :=
  (and_strobeMask_iff c 0b100 0b100).trans (by simp)

theorem meets_terr_iff : c &&& 0x600 = 0x200 ↔ c.getLsbD 10 = false ∧ c.getLsbD 9 = true :=
  (and_strobeMask_iff c 0b110 0b010).trans (by simp)

theorem meets_push_iff :
    c &&& 0x700 = 0x100 ↔ c.getLsbD 10 = false ∧ c.getLsbD 9 = false ∧ c.getLsbD 8 = true :=
  (and_strobeMask_iff c 0b111 0b001).trans (by simp)

theorem meets_idle_iff :
    c &&& 0x700 = 0x000 ↔ c.getLsbD 10 = false ∧ c.getLsbD 9 = false ∧ c.getLsbD 8 = false :=
  (and_strobeMask_iff c 0b111 0b000).trans (by simp)

end

/-! ### The canonical words -/

/-- The word of `PUSH b` is `0x100 + b` (30_encoding.md R56). -/
theorem controlOfInstr_push (b : Byte) : controlOfInstr (.push b) = 0x100 + b.setWidth 11 := by
  have hb : b.setWidth 11 = (0#3 ++ b : BitVec (3 + 8)) := BitVec.setWidth_eq_append (by decide)
  rw [hb]
  exact BitVec.append_zero_add_zero_append.symm

theorem decodeControl_controlOfInstr_push (b : Byte) : decodeControl (controlOfInstr (.push b)) = .push b := by
  have hmeets : controlOfInstr (.push b) &&& 0x700 = 0x100 := eq_of_beq (Laws.FixedBits.push b)
  have hdata : (controlOfInstr (.push b)).extractLsb' 0 8 = b := BitVec.extractLsb'_append_eq_right
  obtain ⟨hr, he, hv⟩ := (meets_push_iff _).mp hmeets
  rw [decodeControl_of_valid hr he hv, hdata]

/-- A port operation is read back from its canonical word. -/
theorem decodeControl_controlOfInstr {i : Instr} (h : instrWindow i = none) :
    decodeControl (controlOfInstr i) = i := by
  cases i with
  | reset | terr | idle => decide
  | push b => exact decodeControl_controlOfInstr_push b
  | frameBadMarker | frameWrongType | frameBadLen | frameCsumErr | frameOorLo | frameOorHi | frameDist => cases h

/-- Settles O3: the strobes that select a row are those its mask and match ask for. -/
theorem controlWordSelectsByMaskAndMatch : Obligations.ControlWordSelectsByMaskAndMatch := by
  refine ⟨fun c => ?_, rfl, rfl, rfl, fun b => congrArg InputWord.ctrl (controlOfInstr_push b)⟩
  rw [meets_reset_iff, meets_terr_iff, meets_push_iff, meets_idle_iff]
  rcases decodeControl_cases c with ⟨hr, h⟩ | ⟨hr, he, h⟩ | ⟨hr, he, hv, h⟩ | ⟨hr, he, hv, h⟩ <;> rw [h]
  · simp [hr, -BitVec.getLsbD_eq_getElem]
  · simp [hr, he, -BitVec.getLsbD_eq_getElem]
  · simp [hr, he, hv, -BitVec.getLsbD_eq_getElem]
  · simp [hr, he, hv, -BitVec.getLsbD_eq_getElem]

/-- Settles O4: the word decodes as the canonical word of its row, and each row completes once the block has been reset. -/
theorem priorityDropsTheLosers : Obligations.PriorityDropsTheLosers := by
  intro c s
  refine ⟨fun hr => ?_, fun hr he => ?_, fun hr he hv => ?_, fun hp => ?_⟩
  · rw [State.clock, decodeControl_of_rst hr]; rfl
  · rw [State.clock, decodeControl_of_err hr he]; rfl
  · rw [State.clock, decodeControl_of_no_strobe hr he hv]; rfl
  · rw [State.clock]
    rcases decodeControl_cases c with ⟨_, h⟩ | ⟨_, _, h⟩ | ⟨_, _, _, h⟩ | ⟨_, _, _, h⟩ <;> rw [h]
    · exact ⟨_, rfl⟩
    · exact ⟨_, State.whenReset_live hp _⟩
    · exact ⟨_, State.whenReset_live hp _⟩
    · exact ⟨_, State.whenReset_live hp _⟩

end Sys2Proof
end

section
/-! SUPPORT. The rows of the windows: the class and the outcome of a window of each shape, and that a row and its window
determine each other (30_encoding.md R50, R53). -/

namespace Sys2Proof

open Sys2Proof.Machine

/-! ### The four shapes of a window -/

/-- How far the header of a window is right: not the marker, the marker alone, the marker and the type, or all of it. -/
theorem window_shapes (w : Window) :
    (w.w0 ≠ Config.sync ∨ w.w1 ≠ Config.sync) ∨
    (∃ typ w3 w4 w5 w6, typ ≠ Config.typeDist ∧ w = markedWindow typ w3 w4 w5 w6) ∨
    (∃ len w4 w5 w6, len ≠ Config.lenDist ∧ w = typedWindow len w4 w5 w6) ∨
    ∃ hi lo csum, w = headedWindow hi lo csum := by
  obtain ⟨w0, w1, w2, w3, w4, w5, w6⟩ := w
  by_cases hm : w0 ≠ Config.sync ∨ w1 ≠ Config.sync
  · exact .inl hm
  obtain ⟨rfl, rfl⟩ : w0 = Config.sync ∧ w1 = Config.sync := by simpa using hm
  by_cases ht : w2 = Config.typeDist
  · by_cases hl : w3 = Config.lenDist
    · exact .inr (.inr (.inr ⟨w4, w5, w6, by rw [ht, hl]; rfl⟩))
    · exact .inr (.inr (.inl ⟨w3, w4, w5, w6, hl, by rw [ht]; rfl⟩))
  · exact .inr (.inl ⟨w2, w3, w4, w5, w6, ht, rfl⟩)

/-! ### The class and the outcome of each shape -/

theorem classifyWindow_of_not_marked {w : Window} (h : w.w0 ≠ Config.sync ∨ w.w1 ≠ Config.sync) :
    classifyWindow w = .frameBadMarker w.w0 w.w1 w.w2 w.w3 w.w4 w.w5 w.w6 := if_pos h

theorem classifyWindow_markedWindow {typ : Byte} (w3 w4 w5 w6 : Byte) (h : typ ≠ Config.typeDist) :
    classifyWindow (markedWindow typ w3 w4 w5 w6) = .frameWrongType typ w3 w4 w5 w6 :=
  (if_neg (by simp [markedWindow])).trans (if_pos h)

theorem classifyWindow_typedWindow {len : Byte} (w4 w5 w6 : Byte) (h : len ≠ Config.lenDist) :
    classifyWindow (typedWindow len w4 w5 w6) = .frameBadLen len w4 w5 w6 := by
  simp [classifyWindow, typedWindow, markedWindow, h]

/-- On a window that selects the distance frame the checksum decides, then the two sentinels (30_encoding.md R53). -/
theorem classifyWindow_headedWindow (hi lo csum : Byte) :
    classifyWindow (headedWindow hi lo csum) =
      if csum = expectedCsum hi lo then
        if hi ++ lo = Config.sentLo then .frameOorLo
        else if hi ++ lo = Config.sentHi then .frameOorHi
        else .frameDist (hi ++ lo) csum
      else .frameCsumErr hi lo csum := by
  by_cases hc : csum = expectedCsum hi lo <;> simp [hc, classifyWindow, headedWindow, typedWindow, markedWindow]

theorem decode_of_not_marked {w : Window} (h : w.w0 ≠ Config.sync ∨ w.w1 ≠ Config.sync) :
    FrameDecoder.decode w = .invalid .badMarker :=
  if_neg (by simpa [imp_iff_not_or] using h)

theorem decode_markedWindow {typ : Byte} (w3 w4 w5 w6 : Byte) (h : typ ≠ Config.typeDist) :
    FrameDecoder.decode (markedWindow typ w3 w4 w5 w6) = .invalid .wrongType :=
  if_neg (by simpa [markedWindow] using h)

theorem decode_typedWindow {len : Byte} (w4 w5 w6 : Byte) (h : len ≠ Config.lenDist) :
    FrameDecoder.decode (typedWindow len w4 w5 w6) = .invalid .badLength :=
  if_neg (by simpa [typedWindow, markedWindow] using h)

/-! ### A row and its window determine each other -/

/-- `frame(d)` for the distance that two payload bytes are (40_frame_decoder.md R80 item 4). -/
theorem frameOfDistance_append (hi lo : Byte) :
    frameOfDistance (hi ++ lo) = headedWindow hi lo (expectedCsum hi lo) := by
  simp [frameOfDistance]

/-- The window of a well-formed row is put in that row, whatever the bytes the row leaves open. -/
theorem classifyWindow_of_instrWindow {i : Instr} {w : Window} (hi : instrWindow i = some w) (hwf : i.WellFormed) :
    classifyWindow w = i := by
  cases i with
  | reset | terr | push | idle => cases hi
  | frameBadMarker w0 w1 w2 w3 w4 w5 w6 =>
    cases hi
    exact classifyWindow_of_not_marked (by simpa [Instr.WellFormed, Instr.wf] using hwf)
  | frameWrongType typ w3 w4 w5 w6 =>
    cases hi
    exact classifyWindow_markedWindow w3 w4 w5 w6 (by simpa [Instr.WellFormed, Instr.wf] using hwf)
  | frameBadLen len w4 w5 w6 =>
    cases hi
    exact classifyWindow_typedWindow w4 w5 w6 (by simpa [Instr.WellFormed, Instr.wf] using hwf)
  | frameCsumErr hi lo csum =>
    cases hi
    rw [classifyWindow_headedWindow, if_neg (by simpa [Instr.WellFormed, Instr.wf] using hwf)]
  | frameOorLo => cases hi; decide
  | frameOorHi => cases hi; decide
  | frameDist dist csum =>
    cases hi
    obtain ⟨⟨hc, hlo⟩, hhi⟩ : (csum = expectedCsum (distHi dist) (distLo dist) ∧ dist ≠ Config.sentLo) ∧
        dist ≠ Config.sentHi := by simpa [Instr.WellFormed, Instr.wf] using hwf
    rw [classifyWindow_headedWindow, distHi_append_distLo, if_pos hc, if_neg hlo, if_neg hhi]

/-- The row a window is put in stands for that window: no byte of it is lost. -/
theorem instrWindow_classifyWindow (w : Window) : instrWindow (classifyWindow w) = some w := by
  rcases window_shapes w with
    hm | ⟨typ, w3, w4, w5, w6, ht, rfl⟩ | ⟨len, w4, w5, w6, hl, rfl⟩ | ⟨hi, lo, csum, rfl⟩
  · rw [classifyWindow_of_not_marked hm]; rfl
  · rw [classifyWindow_markedWindow w3 w4 w5 w6 ht]; rfl
  · rw [classifyWindow_typedWindow w4 w5 w6 hl]; rfl
  · rw [classifyWindow_headedWindow]
    split
    next hc =>
      subst hc
      split
      next hlo => rw [← frameOfDistance_append, hlo]; rfl
      split
      next hhi => rw [← frameOfDistance_append, hhi]; rfl
      simp [instrWindow]
    · rfl

theorem encode_of_window {i : Instr} {w : Window} (h : instrWindow i = some w) :
    encode i = .frame (frameOfWindow w) := by
  rw [encode, h]

theorem encode_of_no_window {i : Instr} (h : instrWindow i = none) : encode i = .ctrl (controlOfInstr i) := by
  rw [encode, h]

/-- Settles O1: a port operation is read back from its control word, a frame from the class of its window. -/
theorem decodeOfEncodeIsIdentity : Obligations.DecodeOfEncodeIsIdentity := by
  intro i hwf
  cases hi : instrWindow i with
  | none =>
    rw [encode_of_no_window hi]
    exact decodeControl_controlOfInstr hi
  | some w =>
    rw [encode_of_window hi, decodeInput, decodeFrame, windowOfFrame_frameOfWindow]
    exact classifyWindow_of_instrWindow hi hwf

/-- Settles O2: the row stands for the window, and the window for the word. -/
theorem encodeOfDecodedFrameIsIdentity : Obligations.EncodeOfDecodedFrameIsIdentity := by
  intro f
  rw [decodeFrame, encode_of_window (instrWindow_classifyWindow _), frameOfWindow_windowOfFrame]

/-- Settles O6: no control word is illegal, and every window meets the condition of its class. -/
theorem everyWordDecodesWellFormed : Obligations.EveryWordDecodesWellFormed := by
  intro x
  cases x with
  | ctrl c =>
    rw [decodeInput]
    rcases decodeControl_cases c with ⟨_, h⟩ | ⟨_, _, h⟩ | ⟨_, _, _, h⟩ | ⟨_, _, _, h⟩ <;> rw [h] <;> rfl
  | frame f => exact classifyWindow_wf (windowOfFrame f)

/-! ### The rows as calls of the decoder -/

/-- A row that stands for a window is a call of the decoder on it (30_encoding.md R59). -/
theorem exec_of_window {i : Instr} {w : Window} (h : instrWindow i = some w) (s : State) :
    exec i s = s.callDecode w := by
  cases i with
  | reset | terr | push | idle => cases h
  | frameBadMarker | frameWrongType | frameBadLen | frameCsumErr | frameOorLo | frameOorHi | frameDist => cases h; rfl

/-- Settles O42: the row of a window stands for that window. -/
theorem frameRowsCallDecodeAndTouchNothing : Obligations.FrameRowsCallDecodeAndTouchNothing :=
  fun f => exec_of_window (instrWindow_classifyWindow (windowOfFrame f))

/-! ### The six classes of R53 -/

/-- The checksum byte that a payload asks for, as a number (30_encoding.md R53). -/
theorem expectedCsum_toNat (hi lo : Byte) :
    (expectedCsum hi lo).toNat = (0xFB + hi.toNat + lo.toNat) % 256 := by
  have hhead : Config.headerSum.toNat = 0xFB := rfl
  simp [expectedCsum, hhead]

/-- The lower sentinel's frame, written out (30_encoding.md R53). -/
theorem frameOfDistance_sentLo : frameOfDistance Config.sentLo = ⟨0x5A, 0x5A, 0x45, 0x02, 0x00, 0x14, 0x0F⟩ := by
  decide

/-- The upper sentinel's frame, written out (30_encoding.md R53). -/
theorem frameOfDistance_sentHi : frameOfDistance Config.sentHi = ⟨0x5A, 0x5A, 0x45, 0x02, 0x02, 0xD0, 0xCD⟩ := by
  decide

/-- A headed window with the right checksum is the frame of the distance its payload holds, and of no other
(40_frame_decoder.md R80 item 4). -/
theorem headedWindow_eq_frame_iff (hi lo : Byte) {d : Distance} {w : Window} (hw : frameOfDistance d = w) :
    headedWindow hi lo (expectedCsum hi lo) = w ↔ hi ++ lo = d := by
  subst hw
  rw [← frameOfDistance_append]
  refine ⟨fun h => ?_, congrArg frameOfDistance⟩
  simpa [frameOfDistance, distance_headedWindow] using congrArg distance h

/-- Settles O5, header byte by header byte; a headed window by its checksum, and then by the distance it is the frame of. -/
theorem windowClassesAndOutcomes : Obligations.WindowClassesAndOutcomes := by
  rintro ⟨w0, w1, w2, w3, hi, lo, csum⟩
  split
  next hm => exact ⟨classifyWindow_of_not_marked hm, decode_of_not_marked hm⟩
  next hm =>
  obtain ⟨rfl, rfl⟩ : w0 = Config.sync ∧ w1 = Config.sync := by simpa [Config.sync] using hm
  split
  next ht => exact ⟨classifyWindow_markedWindow w3 hi lo csum ht, decode_markedWindow w3 hi lo csum ht⟩
  next ht =>
  obtain rfl : w2 = Config.typeDist := not_not.mp ht
  split
  next hl => exact ⟨classifyWindow_typedWindow hi lo csum hl, decode_typedWindow hi lo csum hl⟩
  next hl =>
  obtain rfl : w3 = Config.lenDist := not_not.mp hl
  have hrow := classifyWindow_headedWindow hi lo csum
  have hout := decode_headedWindow hi lo csum
  split
  next hc =>
    have hne : csum ≠ expectedCsum hi lo := fun h => hc (h ▸ expectedCsum_toNat hi lo)
    exact ⟨hrow.trans (if_neg hne), hout.trans (if_neg hne.symm)⟩
  next hc =>
  obtain rfl : csum = expectedCsum hi lo :=
    BitVec.eq_of_toNat_eq ((not_not.mp hc).trans (expectedCsum_toNat hi lo).symm)
  rw [if_pos rfl] at hrow hout
  have hlo_iff := headedWindow_eq_frame_iff hi lo frameOfDistance_sentLo
  have hhi_iff := headedWindow_eq_frame_iff hi lo frameOfDistance_sentHi
  split
  next hw =>
    have hlo : hi ++ lo = Config.sentLo := hlo_iff.mp hw
    exact ⟨hrow.trans (if_pos hlo), hout.trans (if_pos (.inl hlo))⟩
  next hw =>
  have hlo : hi ++ lo ≠ Config.sentLo := mt hlo_iff.mpr hw
  rw [if_neg hlo] at hrow
  split
  next hw =>
    have hhi : hi ++ lo = Config.sentHi := hhi_iff.mp hw
    exact ⟨hrow.trans (if_pos hhi), hout.trans (if_pos (.inr hhi))⟩
  next hw =>
    have hhi : hi ++ lo ≠ Config.sentHi := mt hhi_iff.mpr hw
    exact ⟨hrow.trans (if_neg hhi), hout.trans (if_neg (not_or.mpr ⟨hlo, hhi⟩))⟩

/-! ### Words written out -/

/-- Settles O7, word by word. -/
theorem specWordsDecodeToTheirRows : Obligations.SpecWordsDecodeToTheirRows := by
  unfold Obligations.SpecWordsDecodeToTheirRows
  decide

end Sys2Proof
end

section
/-! SUPPORT. The codes of the outcomes (30_encoding.md R55) and the pseudo-operations (30_encoding.md R59). -/

namespace Sys2Proof.Machine

open Sys2Proof.Safety

/-- Codes 6 and 7 are never produced (30_encoding.md R55). -/
theorem outcomeCode_unused (o : DecodeOutcome) : outcomeCode o ≠ 6 ∧ outcomeCode o ≠ 7 := by
  cases o with
  | valid d => exact ⟨by simp [outcomeCode], by simp [outcomeCode]⟩
  | invalid r => cases r <;> decide

/-- While `out_valid` is 0 a consumer reads no outcome (30_encoding.md R55). -/
theorem outcomeOfOut_of_not_valid {r : OutReg} (h : r.valid = false) : outcomeOfOut r = none :=
  if_neg (ne_true_of_eq_false h)

/-- The pins show no code of `BadMarker`, which is for direct calls alone, and none of the unused ones
(30_encoding.md R55, 60_exceptions.md R132). -/
theorem exec_port_code {i : Instr} {s t : State} (hi : instrWindow i = none) (h : exec i s = .next t) :
    t.out.code ≠ 1 ∧ t.out.code ≠ 6 ∧ t.out.code ≠ 7 := by
  rcases outIsWrittenByEveryPortOperation i s t hi h with ho | ⟨b, _, _, _, h0, h1, ho⟩ <;> rw [ho]
  · decide
  · obtain ⟨hcode, -, -⟩ := outcome_of_marked (w := ⟨s.w[0], s.w[1], s.w[2], s.w[3], s.w[4], s.w[5], b⟩) h0 h1
    rcases hcode with hc | hc | hc | hc | hc <;> rw [outOfOutcome_code, hc] <;> decide

/-- Settles O35: the table row by row, and for the port operations the windows they take. -/
theorem outcomeCodesAsTabled : Obligations.OutcomeCodesAsTabled := by
  refine ⟨fun d => ⟨rfl, rfl⟩, ⟨rfl, rfl, rfl, rfl, rfl⟩, fun r => rfl, fun s => rfl, fun o => ?_,
    fun r => outcomeOfOut_of_not_valid, fun i s t => exec_port_code⟩
  obtain ⟨h6, h7⟩ := outcomeCode_unused o
  exact ⟨h6, h7, outcomeOfOut_outOfOutcome o⟩

/-! ### The pseudo-operations -/

/-- In RUN a `PUSH` is a push of the buffer, and shows its outcome (41_stream_synchronizer.md R96, 10_state.md R11). -/
theorem State.pushed_refines_push (b : Byte) {s : State} (hf : s.fault = false) (hc : s.cnt.toNat ≤ 6) :
    ((s.pushed b).shown, (s.pushed b).buf) = StreamSynchronizer.push s.buf b := by
  rcases State.pushed_cases b s with ⟨ht, _⟩ | ⟨_, hlt, h⟩ | ⟨_, hge, hm, h⟩ | ⟨_, hge, hm, h⟩
  · rw [hf] at ht; cases ht
  · have hlen : s.buf.length < 6 := by rw [State.buf_length hc]; exact hlt
    rw [h, StreamSynchronizer.push_short hlen, State.shown_emitNothing, State.buf_emitNothing, State.buf_append b hlt]
  · have hsix : s.cnt = 6 := by bv_omega
    rw [h, State.buf_full hsix, StreamSynchronizer.push_full, State.shown_emit]
    exact (if_pos hm).symm
  · have hsix : s.cnt = 6 := by bv_omega
    rw [h, State.buf_full hsix, StreamSynchronizer.push_full]
    exact (if_neg (ne_true_of_eq_false hm)).symm

/-- The edge with the word of `PUSH b` on a block that has been reset. -/
theorem State.clock_push (b : Byte) {s : State} (hp : s.power = .live) :
    s.clock (controlOfInstr (.push b)) = .next (s.pushed b) := by
  rw [State.clock, decodeControl_controlOfInstr_push]
  exact State.whenReset_live hp _

/-- The pushes of some bytes, one edge each, are a feed of the buffer (41_stream_synchronizer.md R97). -/
theorem State.run_pushes (bytes : List Byte) {s : State} (hp : s.power = .live) (hf : s.fault = false)
    (hc : s.cnt.toNat ≤ 6) :
    ∃ t, s.run (bytes.map fun x => controlOfInstr (.push x)) = some ((StreamSynchronizer.feed s.buf bytes).1, t) ∧
      t.buf = (StreamSynchronizer.feed s.buf bytes).2 := by
  induction bytes generalizing s with
  | nil => exact ⟨s, rfl, rfl⟩
  | cons b rest ih =>
    have hclock := State.clock_push b hp
    obtain ⟨t, hrun, hbuf⟩ := ih (s := s.pushed b) (by simpa using hp) (by simpa using hf) (exec_cnt_le hclock hc)
    have hpush := State.pushed_refines_push b hf hc
    rw [StreamSynchronizer.feed, ← hpush]
    exact ⟨t, State.run_cons_eq_some.mpr ⟨_, _, hclock, hrun, rfl⟩, hbuf⟩

/-- Settles O59: `FEED` by its pushes, or by the `IDLE` that changes no buffer; the words are the canonical ones. -/
theorem pseudoOperationsExpandAsListed : Obligations.PseudoOperationsExpandAsListed := by
  refine ⟨fun s bytes hp hf hc => ?_, fun b rest => ?_, rfl, rfl, fun w => ⟨rfl, ?_⟩⟩
  · cases bytes with
    | nil =>
      have hclock : s.clock (controlOfInstr .idle) = .next s.emitNothing := State.whenReset_live hp _
      exact ⟨s.emitNothing, State.run_cons_eq_some.mpr ⟨_, _, hclock, rfl, rfl⟩, rfl⟩
    | cons b rest => exact State.run_pushes (b :: rest) hp hf hc
  · exact congrArg (List.map · (b :: rest)) (funext controlOfInstr_push)
  · exact congrArg (fun x => [classifyWindow x]) (windowOfFrame_frameOfWindow w)

end Sys2Proof.Machine
end

section
/-! SUPPORT. The operands of the decoder as numbers, and the windows that reach its range step
(40_frame_decoder.md R74 to R80). -/

namespace Sys2Proof.Machine

/-! ### The payload as a number -/

/-- Two payload bytes are one big-endian number (40_frame_decoder.md R75). -/
theorem append_toNat (hi lo : Byte) : (hi ++ lo).toNat = 256 * hi.toNat + lo.toNat := by
  rw [BitVec.toNat_append, ← Nat.shiftLeft_add_eq_or_of_lt lo.isLt, Nat.shiftLeft_eq, Nat.mul_comm]

theorem distance_toNat (w : Window) : (distance w).toNat = 256 * w.w4.toNat + w.w5.toNat := by
  rw [distance_eq_append, append_toNat]

theorem distance_eq_iff (w : Window) (d : Distance) :
    distance w = d ↔ 256 * w.w4.toNat + w.w5.toNat = d.toNat := by
  rw [← BitVec.toNat_inj, distance_toNat]

theorem distHi_toNat (d : Distance) : (distHi d).toNat = d.toNat / 256 := by
  rw [distHi, BitVec.extractLsb'_toNat, Nat.shiftRight_eq_div_pow]
  omega

theorem distLo_toNat (d : Distance) : (distLo d).toNat = d.toNat % 256 := by
  simp [distLo]

/-- Settles O29: the distance is the concatenation of the payload bytes. -/
theorem distanceIsBigEndianUnsigned : Obligations.DistanceIsBigEndianUnsigned :=
  distance_toNat

/-! ### The checksum -/

theorem checksum_toNat (w : Window) : (checksum w).toNat =
    (w.w0.toNat + w.w1.toNat + w.w2.toNat + w.w3.toNat + w.w4.toNat + w.w5.toNat) % 256 := by
  simp [checksum]

/-- Settles O30: the sum wraps at 8 bits, and the byte that passes is the sum, which does not cover it. -/
theorem checksumIsTheSumModulo256 : Obligations.ChecksumIsTheSumModulo256 :=
  ⟨checksum_toNat, fun w => ⟨checksum w, fun _ => (csumOk_iff _).trans eq_comm⟩⟩

theorem expectedCsum_comm (hi lo : Byte) : expectedCsum hi lo = expectedCsum lo hi :=
  add_right_comm _ _ _

theorem expectedCsum_right_inj (hi : Byte) {lo lo' : Byte} :
    expectedCsum hi lo = expectedCsum hi lo' ↔ lo = lo' :=
  add_right_inj _

theorem expectedCsum_left_inj {hi hi' : Byte} (lo : Byte) :
    expectedCsum hi lo = expectedCsum hi' lo ↔ hi = hi' := by
  rw [expectedCsum_comm hi, expectedCsum_comm hi', expectedCsum_right_inj]

/-- What one payload byte gains the other may lose, and the sum does not show it (40_frame_decoder.md R80 item 5). -/
theorem expectedCsum_add_sub (hi lo x : Byte) : expectedCsum (hi + x) (lo - x) = expectedCsum hi lo := by
  rw [expectedCsum, expectedCsum, ← add_assoc, add_add_sub_cancel]

/-- A headed window passes the checksum when its last byte is the one its payload asks for. -/
theorem csumOk_headedWindow (hi lo csum : Byte) :
    csumOk (headedWindow hi lo csum) = true ↔ expectedCsum hi lo = csum :=
  csumOk_iff _

theorem decode_headedWindow_of_ne {hi lo csum : Byte} (h : expectedCsum hi lo ≠ csum) :
    FrameDecoder.decode (headedWindow hi lo csum) = .invalid .checksumMismatch :=
  (decode_headedWindow hi lo csum).trans (if_neg h)

/-- Settles O34: the checksum is one-to-one in each byte it covers, and symmetric in the payload. -/
theorem checksumCatchesSingleByteErrors : Obligations.ChecksumCatchesSingleByteErrors := by
  intro d x
  refine ⟨fun h6 => ?_, fun h4 => ?_, fun h5 => ?_, ?_, ?_⟩
  · exact decode_headedWindow_of_ne h6.symm
  · exact decode_headedWindow_of_ne (mt (expectedCsum_left_inj _).mp h4)
  · exact decode_headedWindow_of_ne (mt (expectedCsum_right_inj _).mp h5)
  · exact (csumOk_headedWindow _ _ _).mpr (expectedCsum_comm _ _)
  · exact (csumOk_headedWindow _ _ _).mpr (expectedCsum_add_sub _ _ 1)

/-! ### The whole function -/

/-- Settles O28: each step's signal is the negation of the test that R78 writes. -/
theorem decodeIsTheWholeFunction : Obligations.DecodeIsTheWholeFunction := by
  intro w
  have hmark : markerOk w.w0 w.w1 = true ↔ ¬(w.w0 ≠ 0x5A ∨ w.w1 ≠ 0x5A) := by
    rw [markerOk_iff, not_or, not_not, not_not]; rfl
  have htype : typeOk w = true ↔ ¬w.w2 ≠ 0x45 := (typeOk_iff w).trans not_not.symm
  have hlen : lenOk w = true ↔ ¬w.w3 ≠ 0x02 := (lenOk_iff w).trans not_not.symm
  have hcsum : csumOk w = true ↔ ¬(w.w0.toNat + w.w1.toNat + w.w2.toNat + w.w3.toNat + w.w4.toNat +
      w.w5.toNat) % 256 ≠ w.w6.toNat := by
    rw [csumOk_iff, ← BitVec.toNat_inj, checksum_toNat, not_not]
  have hrange : sentinel w = true ↔
      256 * w.w4.toNat + w.w5.toNat = 20 ∨ 256 * w.w4.toNat + w.w5.toNat = 720 := by
    rw [sentinel_iff, distance_eq_iff, distance_eq_iff]; rfl
  have hdist : distance w = BitVec.ofNat 16 (256 * w.w4.toNat + w.w5.toNat) := by
    rw [← distance_toNat, BitVec.ofNat_toNat, BitVec.setWidth_eq]
  simp only [FrameDecoder.decode, FrameDecoder.markStep, FrameDecoder.typeStep, FrameDecoder.lenStep,
    FrameDecoder.csumStep, FrameDecoder.rangeStep, FrameDecoder.validStep, hmark, htype, hlen, hcsum, hrange, hdist,
    ite_not]

/-! ### The frame of a distance (40_frame_decoder.md R80 item 4) -/

theorem decode_frameOfDistance (d : Distance) :
    FrameDecoder.decode (frameOfDistance d) =
      if d = Config.sentLo ∨ d = Config.sentHi then .invalid .outOfRange else .valid d := by
  rw [frameOfDistance, decode_headedWindow, if_pos rfl, distHi_append_distLo]

/-- A window is `frame(d)` when its header, its payload and its checksum byte are. -/
theorem eq_frameOfDistance_iff (w : Window) (d : Distance) :
    w = frameOfDistance d ↔
      w.w0 = Config.sync ∧ w.w1 = Config.sync ∧ w.w2 = Config.typeDist ∧ w.w3 = Config.lenDist ∧
        distance w = d ∧ w.w6 = expectedCsum w.w4 w.w5 := by
  constructor
  · rintro rfl
    exact ⟨rfl, rfl, rfl, rfl, by rw [frameOfDistance, distance_headedWindow, distHi_append_distLo], rfl⟩
  · rintro ⟨h0, h1, h2, h3, hd, hc⟩
    rw [← hd, distance_eq_append, frameOfDistance_append, ← hc]
    exact eq_headedWindow h0 h1 h2 h3

/-- A window is `frame(d)` when it passes the four checks before the range step with distance `d`. -/
theorem checks_iff_eq_frameOfDistance (w : Window) (d : Distance) :
    (markerOk w.w0 w.w1 = true ∧ typeOk w = true ∧ lenOk w = true ∧ csumOk w = true ∧ distance w = d) ↔
      w = frameOfDistance d := by
  rw [eq_frameOfDistance_iff, markerOk_iff, typeOk_iff, lenOk_iff, csumOk_iff]
  have hsum (h0 : w.w0 = Config.sync) (h1 : w.w1 = Config.sync) (h2 : w.w2 = Config.typeDist)
      (h3 : w.w3 = Config.lenDist) : checksum w = expectedCsum w.w4 w.w5 := by
    rw [checksum, h0, h1, h2, h3]; rfl
  constructor
  · rintro ⟨⟨h0, h1⟩, h2, h3, hc, hd⟩
    exact ⟨h0, h1, h2, h3, hd, hc.symm.trans (hsum h0 h1 h2 h3)⟩
  · rintro ⟨h0, h1, h2, h3, hd, hc⟩
    exact ⟨⟨h0, h1⟩, h2, h3, (hsum h0 h1 h2 h3).trans hc.symm, hd⟩

/-- Settles O33: the four checks fix every byte of the window once its distance is given. -/
theorem oneWellFormedFramePerDistance : Obligations.OneWellFormedFramePerDistance :=
  fun d => ⟨fun w => checks_iff_eq_frameOfDistance w d, decode_frameOfDistance d⟩

/-- Only the frame of a distance reaches the range step; every other window is rejected before it. -/
theorem eq_frame_or_rejected_before_range (w : Window) :
    (∃ d, w = frameOfDistance d) ∨ ∃ r, r ≠ .outOfRange ∧ FrameDecoder.decode w = .invalid r := by
  rcases window_shapes w with
    hm | ⟨typ, w3, w4, w5, w6, ht, rfl⟩ | ⟨len, w4, w5, w6, hl, rfl⟩ | ⟨hi, lo, csum, rfl⟩
  · exact .inr ⟨.badMarker, by decide, decode_of_not_marked hm⟩
  · exact .inr ⟨.wrongType, by decide, decode_markedWindow w3 w4 w5 w6 ht⟩
  · exact .inr ⟨.badLength, by decide, decode_typedWindow w4 w5 w6 hl⟩
  · by_cases hc : expectedCsum hi lo = csum
    · exact .inl ⟨hi ++ lo, by rw [frameOfDistance_append, hc]⟩
    · exact .inr ⟨.checksumMismatch, by decide, decode_headedWindow_of_ne hc⟩

theorem decode_eq_valid_iff (w : Window) (d : Distance) :
    FrameDecoder.decode w = .valid d ↔ w = frameOfDistance d ∧ d ≠ Config.sentLo ∧ d ≠ Config.sentHi := by
  constructor
  · intro h
    rcases eq_frame_or_rejected_before_range w with ⟨d', rfl⟩ | ⟨r, -, hr⟩
    · rw [decode_frameOfDistance] at h
      split at h
      next => cases h
      next hs => cases h; exact ⟨rfl, not_or.mp hs⟩
    · cases hr.symm.trans h
  · rintro ⟨rfl, hs⟩
    rw [decode_frameOfDistance, if_neg (not_or.mpr hs)]

theorem decode_eq_outOfRange_iff (w : Window) :
    FrameDecoder.decode w = .invalid .outOfRange ↔
      w = frameOfDistance Config.sentLo ∨ w = frameOfDistance Config.sentHi := by
  constructor
  · intro h
    rcases eq_frame_or_rejected_before_range w with ⟨d, rfl⟩ | ⟨r, hne, hr⟩
    · rw [decode_frameOfDistance] at h
      split at h
      next hs => exact hs.imp (congrArg frameOfDistance) (congrArg frameOfDistance)
      next => cases h
    · cases hr.symm.trans h
      exact absurd rfl hne
  · rintro (rfl | rfl)
    · rw [decode_frameOfDistance, if_pos (.inl rfl)]
    · rw [decode_frameOfDistance, if_pos (.inr rfl)]

/-- Settles O31: `Valid(d)` is answered on `frame(d)` alone, whose bytes are those of the header, of `d` and of its
checksum. -/
theorem validIffWellFormedAndNoSentinel : Obligations.ValidIffWellFormedAndNoSentinel := by
  intro w d
  have hcsum : w.w6 = expectedCsum w.w4 w.w5 ↔ w.w6.toNat = (0xFB + w.w4.toNat + w.w5.toNat) % 256 := by
    rw [← BitVec.toNat_inj, expectedCsum_toNat]
  rw [decode_eq_valid_iff, eq_frameOfDistance_iff, distance_eq_iff, eq_comm (b := d.toNat), hcsum]
  simp only [and_assoc]
  rfl

/-- Settles O32: the frames of the two sentinels, written out. -/
theorem outOfRangeOnlyForTwoWindows : Obligations.OutOfRangeOnlyForTwoWindows := by
  intro w
  rw [decode_eq_outOfRange_iff, frameOfDistance_sentLo, frameOfDistance_sentHi]

end Sys2Proof.Machine
end

section
/-! SUPPORT. The outcome of each frame row: what the decoder answers on the row's window, handed to its caller in every
session state (40_frame_decoder.md R70 to R77, 30_encoding.md R59). -/

namespace Sys2Proof.Machine

/-- A row hands its caller what the decoder answers on the row's window, and changes nothing else. -/
theorem exec_returns_of_decode {i : Instr} {w : Window} {o : DecodeOutcome} (hw : instrWindow i = some w)
    (ho : FrameDecoder.decode w = o) (s : State) : exec i s = .next { s with returned := some o } := by
  rw [exec_of_window hw, State.callDecode, ho]
  rfl

/-- Settles O36: the marker is tested first. -/
theorem badMarkerFrameIsRejected : Obligations.BadMarkerFrameIsRejected :=
  fun s _ _ _ _ _ _ _ h => exec_returns_of_decode rfl (decode_of_not_marked h) s

/-- Settles O37: the type is tested before any later byte is read. -/
theorem wrongTypeFrameIsRejected : Obligations.WrongTypeFrameIsRejected :=
  fun s _ w3 w4 w5 w6 h => exec_returns_of_decode rfl (decode_markedWindow w3 w4 w5 w6 h) s

/-- Settles O38: the length is tested before any later byte is read. -/
theorem badLengthFrameIsRejected : Obligations.BadLengthFrameIsRejected :=
  fun s _ w4 w5 w6 h => exec_returns_of_decode rfl (decode_typedWindow w4 w5 w6 h) s

/-- Settles O39: the checksum is tested before the range, so a sentinel payload makes no difference. -/
theorem checksumErrorFrameIsRejected : Obligations.ChecksumErrorFrameIsRejected := by
  intro s hi lo csum h
  have hne : expectedCsum hi lo ≠ csum := fun hc => h (hc ▸ expectedCsum_toNat hi lo)
  exact exec_returns_of_decode rfl (decode_headedWindow_of_ne hne) s

/-- Settles O40: the two rows are the frames of the sentinels. -/
theorem sentinelFramesAreOutOfRange : Obligations.SentinelFramesAreOutOfRange :=
  fun s => ⟨exec_returns_of_decode rfl ((decode_eq_outOfRange_iff _).mpr (.inl rfl)) s,
    exec_returns_of_decode rfl ((decode_eq_outOfRange_iff _).mpr (.inr rfl)) s⟩

/-- Settles O41: with the right checksum the row is the frame of its distance. -/
theorem distanceFrameIsValid : Obligations.DistanceFrameIsValid := by
  intro s d csum hcsum hlo hhi
  have hc : csum = expectedCsum (distHi d) (distLo d) := by
    rw [← BitVec.toNat_inj, expectedCsum_toNat, distHi_toNat, distLo_toNat, hcsum]
  subst hc
  exact exec_returns_of_decode rfl ((decode_eq_valid_iff _ d).mpr ⟨rfl, hlo, hhi⟩) s

end Sys2Proof.Machine
end

section
/-! SUPPORT. The scan loop as equations on the buffer, and the operations built on it (41_stream_synchronizer.md R94 to
R97). -/

namespace Sys2Proof.Machine

/-- The loop ends below seven bytes (41_stream_synchronizer.md R94). -/
theorem StreamSynchronizer.scan_short {buf : List Byte} (h : buf.length < 7) :
    StreamSynchronizer.scan buf = ([], buf) :=
  StreamSynchronizer.scan_done (StreamSynchronizer.iterate_short h)

/-- A marked window at the head is consumed and reported (41_stream_synchronizer.md R93). -/
theorem StreamSynchronizer.scan_window {w : Window} (h : markerOk w.w0 w.w1 = true) (rest : List Byte) :
    StreamSynchronizer.scan (windowBytes w ++ rest) =
      (FrameDecoder.decode w :: (StreamSynchronizer.scan rest).1, (StreamSynchronizer.scan rest).2) :=
  StreamSynchronizer.scan_iterate ((StreamSynchronizer.iterate_long ..).trans (if_pos h))

/-- A window that is not marked costs its first byte and no outcome (41_stream_synchronizer.md R92). -/
theorem StreamSynchronizer.scan_slide {w : Window} (h : ¬markerOk w.w0 w.w1 = true) (rest : List Byte) :
    StreamSynchronizer.scan (windowBytes w ++ rest) = StreamSynchronizer.scan ((windowBytes w).tail ++ rest) :=
  StreamSynchronizer.scan_iterate ((StreamSynchronizer.iterate_long ..).trans (if_neg h))

/-- Every iteration shortens the buffer, and the loop ends at six bytes: so many iterations fewer are enough. -/
theorem StreamSynchronizer.loop_eq_scan {n : Nat} {buf : List Byte} (h : buf.length ≤ n + 6) :
    StreamSynchronizer.loop n buf = StreamSynchronizer.scan buf := by
  induction n generalizing buf with
  | zero => exact (StreamSynchronizer.scan_short (by omega)).symm
  | succ n ih =>
    cases hi : StreamSynchronizer.iterate buf with
    | none => rw [StreamSynchronizer.scan_done hi, StreamSynchronizer.loop, hi]
    | some p =>
      obtain ⟨o, rest⟩ := p
      have hlt := StreamSynchronizer.iterate_shorter hi
      rw [StreamSynchronizer.scan_iterate hi, StreamSynchronizer.loop, hi, ← ih (buf := rest) (by omega)]

/-- On an empty buffer a feed is the scan of its bytes (41_stream_synchronizer.md R97). -/
theorem StreamSynchronizer.feed_nil_eq_scan (bytes : List Byte) :
    StreamSynchronizer.feed [] bytes = StreamSynchronizer.scan bytes :=
  (StreamSynchronizer.feedBatch_eq_feed (buf := []) bytes (Nat.zero_le 6)).symm

/-- Settles O47: the two branches at the head of the loop, and its bound. -/
theorem scanUnrollsAsTheLoop : Obligations.ScanUnrollsAsTheLoop := by
  refine ⟨fun _ => StreamSynchronizer.scan_short, fun _ => StreamSynchronizer.loop_eq_scan (by omega),
    fun b0 b1 b2 b3 b4 b5 b6 rest => ?_⟩
  split
  next hn =>
    exact StreamSynchronizer.scan_slide (w := ⟨b0, b1, b2, b3, b4, b5, b6⟩)
      (mt (markerOk_iff b0 b1).mp hn) rest
  next hm =>
    exact StreamSynchronizer.scan_window (w := ⟨b0, b1, b2, b3, b4, b5, b6⟩)
      ((markerOk_iff b0 b1).mpr (not_not.mp hm)) rest

/-- Settles O48: a scan is a feed of the empty buffer, and a feed leaves a buffer at rest. -/
theorem atMostSixBytesAtRest : Obligations.AtMostSixBytesAtRest := by
  refine ⟨fun buf => ?_, fun _ bytes => StreamSynchronizer.feed_length_le bytes⟩
  rw [← StreamSynchronizer.feed_nil_eq_scan]
  exact StreamSynchronizer.feed_length_le buf (Nat.zero_le 6)

/-- Settles O49: the scan begins with the byte's push, and ends there, since a push leaves a buffer at rest. -/
theorem pushIsScanOfOneMoreByte : Obligations.PushIsScanOfOneMoreByte := by
  refine ⟨fun _ b h => StreamSynchronizer.push_short h b, fun b0 b1 b2 b3 b4 b5 b => ?_, fun buf b h => ?_⟩
  · exact (StreamSynchronizer.push_full b0 b1 b2 b3 b4 b5 b).trans (if_congr (markerOk_iff b0 b1) rfl rfl)
  · have hrest := StreamSynchronizer.push_length_le h b
    rw [StreamSynchronizer.scan_push, List.append_nil, StreamSynchronizer.scan_short (by omega), List.append_nil]

/-- Settles O50: the bound is the cost of the outcomes, seven bytes each. -/
theorem feedFormsAgree : Obligations.FeedFormsAgree := by
  intro buf bytes h
  have hcost := (StreamSynchronizer.feed_cost bytes buf).1
  exact ⟨rfl, StreamSynchronizer.feedBatch_eq_feed bytes h, by omega⟩

end Sys2Proof.Machine
end

section
/-! SUPPORT. The laws of resynchronization (41_stream_synchronizer.md R99 to R101). -/

namespace Sys2Proof.Machine

/-- The stream has the marker at a position (41_stream_synchronizer.md R99: `s[i] = s[i + 1] = 0x5A`). -/
def MarkerAt (s : List Byte) (i : Nat) : Prop := s[i]? = some Config.sync ∧ s[i + 1]? = some Config.sync

/-- At the head of a whole window that is the decoder's own marker test. -/
theorem markerAt_zero_iff (w : Window) (rest : List Byte) :
    MarkerAt (windowBytes w ++ rest) 0 ↔ markerOk w.w0 w.w1 = true := by
  simp [MarkerAt, windowBytes]

/-- A marker stays where it is when more bytes come behind. -/
theorem MarkerAt.append {s : List Byte} {i : Nat} (h : MarkerAt s i) (more : List Byte) : MarkerAt (s ++ more) i := by
  obtain ⟨h0, h1⟩ := h
  obtain ⟨hlt, -⟩ := List.getElem?_eq_some_iff.mp h1
  exact ⟨(List.getElem?_append_left (Nat.lt_of_succ_lt hlt)).trans h0, (List.getElem?_append_left hlt).trans h1⟩

/-- Seven bytes or more begin with a window. -/
theorem exists_window {s : List Byte} (h : 7 ≤ s.length) : ∃ w rest, s = windowBytes w ++ rest := by
  obtain ⟨b0, b1, b2, b3, b4, b5, b6, rest, rfl⟩ := exists_seven h
  exact ⟨⟨b0, b1, b2, b3, b4, b5, b6⟩, rest, rfl⟩

/-- The bytes before the first marker are slid out, as long as six bytes come behind them. -/
theorem StreamSynchronizer.scan_drop {s : List Byte} {i : Nat} (hlen : i + 6 ≤ s.length)
    (hno : ∀ j, j < i → ¬MarkerAt s j) : StreamSynchronizer.scan s = StreamSynchronizer.scan (s.drop i) := by
  induction i generalizing s with
  | zero => rfl
  | succ i ih =>
    obtain ⟨w, rest, rfl⟩ := exists_window (by omega : 7 ≤ s.length)
    have hhead : ¬markerOk w.w0 w.w1 = true := mt (markerAt_zero_iff w rest).mpr (hno 0 i.succ_pos)
    rw [StreamSynchronizer.scan_slide hhead]
    exact ih (Nat.le_of_succ_le_succ hlen) fun j hj => hno (j + 1) (Nat.succ_lt_succ hj)

/-- One frame at the head of the stream is decoded, and the scan goes on behind it. -/
theorem StreamSynchronizer.scan_frame (d : Distance) (rest : List Byte) :
    StreamSynchronizer.scan (windowBytes (frameOfDistance d) ++ rest) =
      (FrameDecoder.decode (frameOfDistance d) :: (StreamSynchronizer.scan rest).1, (StreamSynchronizer.scan rest).2) :=
  StreamSynchronizer.scan_window ((markerOk_iff ..).mpr ⟨rfl, rfl⟩) rest

/-- Settles O54: the garbage is slid out; behind it stands the frame, or its first six bytes, which wait. -/
theorem recoveryAfterGarbage : Obligations.RecoveryAfterGarbage := by
  intro g d hno
  refine ⟨fun calls hcalls => ?_, ?_, decode_frameOfDistance d⟩
  · rw [cuttingTheStreamChangesNothing [] calls (Nat.zero_le 6), hcalls, StreamSynchronizer.feed_nil_eq_scan,
      StreamSynchronizer.scan_drop (by simp [windowBytes]) hno, List.drop_left]
    exact StreamSynchronizer.scan_frame d []
  · have hno' : ∀ j, j < g.length → ¬MarkerAt (g ++ (windowBytes (frameOfDistance d)).take 6) j := by
      intro j hj hm
      have hwhole := hm.append ((windowBytes (frameOfDistance d)).drop 6)
      rw [List.append_assoc, List.take_append_drop] at hwhole
      exact hno j hj hwhole
    rw [StreamSynchronizer.feed_nil_eq_scan, StreamSynchronizer.scan_drop (by simp [windowBytes]) hno', List.drop_left]
    rfl

/-- Settles O55: at the first marker stands a whole window, since the frame comes behind the garbage; what it leaves of
the frame is too short for another. -/
theorem falseMarkerIsConsumed : Obligations.FalseMarkerIsConsumed := by
  intro g d i hi hno h0 h1
  have hlen : (g ++ windowBytes (frameOfDistance d)).length = g.length + 7 := List.length_append
  obtain ⟨w, rest, hw⟩ := exists_window (s := (g ++ windowBytes (frameOfDistance d)).drop i)
    (by rw [List.length_drop]; omega)
  have hmark : markerOk w.w0 w.w1 = true := by
    rw [← markerAt_zero_iff w rest, ← hw, MarkerAt, List.getElem?_drop, List.getElem?_drop]
    exact ⟨h0, h1⟩
  have hrest : (g ++ windowBytes (frameOfDistance d)).drop (i + 7) = rest := by
    rw [← List.drop_drop, hw]; rfl
  have hscan : StreamSynchronizer.scan (g ++ windowBytes (frameOfDistance d)) =
      (FrameDecoder.decode w :: (StreamSynchronizer.scan rest).1, (StreamSynchronizer.scan rest).2) := by
    rw [StreamSynchronizer.scan_drop (by omega) hno, hw, StreamSynchronizer.scan_window hmark]
  simp only [StreamSynchronizer.feed_nil_eq_scan]
  refine ⟨w, by rw [hw]; rfl, ?_, by rw [hrest, hscan], fun hreach => ?_⟩
  · obtain ⟨hw0, hw1⟩ := (markerOk_iff ..).mp hmark
    rcases Safety.decode_of_marked hw0 hw1 with ⟨r, hr, h⟩ | ⟨_, -, -, h⟩ <;> rw [h]
    · exact fun hb => hr (DecodeOutcome.invalid.inj hb)
    · exact DecodeOutcome.noConfusion
  · have hleft : (windowBytes (frameOfDistance d)).drop (i + 7 - g.length) = rest := by
      rw [← hrest, List.drop_append, List.drop_of_length_le hreach.le, List.nil_append]
    have hrestlen : rest.length = g.length - i := by
      rw [← hrest, List.length_drop]; omega
    rw [hleft, hscan, StreamSynchronizer.scan_short (by omega)]
    exact ⟨rfl, hrestlen⟩

/-- Settles O56, by induction over the frames: each is at the head when the one before it is gone. -/
theorem alignedStreamYieldsOneOutcomePerFrame : Obligations.AlignedStreamYieldsOneOutcomePerFrame := by
  intro ds d k hk
  rw [StreamSynchronizer.feed_nil_eq_scan]
  induction ds with
  | nil => exact StreamSynchronizer.scan_short ((List.length_take_le k _).trans_lt hk)
  | cons x xs ih => rw [List.flatMap_cons, List.append_assoc, StreamSynchronizer.scan_frame, ih, List.map_cons]

end Sys2Proof.Machine
end

section
/-! SUPPORT. The clock edge of each row, and the runs made of such edges (42_port_operations.md R115, R116). -/

namespace Sys2Proof.Machine

/-! ### The edge of each row -/

section
variable {c : ControlWord}

theorem State.clock_of_rst (hr : c.getLsbD 10 = true) (s : State) : s.clock c = .next s.newSession := by
  rw [State.clock, decodeControl_of_rst hr]; rfl

variable {s : State}

theorem State.clock_of_err (hr : c.getLsbD 10 = false) (he : c.getLsbD 9 = true) (hp : s.power = .live) :
    s.clock c = .next s.enterHalted := by
  rw [State.clock, decodeControl_of_err hr he]; exact State.whenReset_live hp _

theorem State.clock_of_push {b : Byte} (hc : decodeControl c = .push b) (hp : s.power = .live) :
    s.clock c = .next (s.pushed b) := by
  rw [State.clock, hc]; exact State.whenReset_live hp _

theorem State.clock_of_idle (hc : decodeControl c = .idle) (hp : s.power = .live) :
    s.clock c = .next s.emitNothing := by
  rw [State.clock, hc]; exact State.whenReset_live hp _

/-- Before the first `RESET` every word without `rst` is refused (10_state.md R19). -/
theorem State.clock_refused (hr : c.getLsbD 10 = false) (hp : s.power = .powerOn) :
    s.clock c = .refused .neverReset := by
  rw [State.clock]
  rcases decodeControl_cases c with ⟨hr', _⟩ | ⟨_, _, h⟩ | ⟨_, _, _, h⟩ | ⟨_, _, _, h⟩
  · rw [hr] at hr'; cases hr'
  · rw [h]; exact State.whenReset_powerOn hp _
  · rw [h]; exact State.whenReset_powerOn hp _
  · rw [h]; exact State.whenReset_powerOn hp _

/-- In HALTED, with nothing shown, every word without `rst` changes nothing (60_exceptions.md R134). -/
theorem State.clock_enterHalted (hr : c.getLsbD 10 = false) (hp : s.power = .live) :
    s.enterHalted.clock c = .next s.enterHalted := by
  have hlive : s.enterHalted.power = .live := hp
  rcases decodeControl_cases c with ⟨hr', _⟩ | ⟨_, he, _⟩ | ⟨_, _, _, h⟩ | ⟨_, _, _, h⟩
  · rw [hr] at hr'; cases hr'
  · exact State.clock_of_err hr he hlive
  · rw [State.clock_of_push h hlive, State.pushed_of_halted _ s.enterHalted_fault]; rfl
  · exact State.clock_of_idle h hlive

/-- A word without `rst` and `in_err` is an `IDLE` or a `PUSH` (30_encoding.md R56). -/
theorem decodeControl_of_stream (hc : isStreamWord c = true) :
    decodeControl c = .idle ∨ ∃ b, decodeControl c = .push b := by
  obtain ⟨hr, he⟩ : c.getLsbD 10 = false ∧ c.getLsbD 9 = false := by simpa [isStreamWord] using hc
  cases hv : c.getLsbD 8 with
  | false => exact .inl (decodeControl_of_no_strobe hr he hv)
  | true => exact .inr ⟨_, decodeControl_of_valid hr he hv⟩

end

/-- Nothing but `RESET` changes the power-on condition (60_exceptions.md R139). -/
theorem exec_power {i : Instr} {s t : State} (hi : i ≠ .reset) (h : exec i s = .next t) : t.power = s.power := by
  rcases exec_next_cases h with ⟨hr, _⟩ | ⟨_, _, rfl⟩ | ⟨b, _, _, rfl⟩ | ⟨_, _, rfl⟩ | ⟨w, _, rfl⟩
  · exact absurd hr hi
  · rfl
  · exact s.pushed_power b
  · rfl
  · rfl

/-! ### Runs -/

/-- A run of some words and then others: the second part goes on where the first ended. -/
theorem State.run_append {xs ys : List ControlWord} {s u t : State} {os os' : List DecodeOutcome}
    (hx : s.run xs = some (os, u)) (hy : u.run ys = some (os', t)) : s.run (xs ++ ys) = some (os ++ os', t) := by
  induction xs generalizing s os with
  | nil => cases hx; exact hy
  | cons c rest ih =>
    obtain ⟨v, os₁, hc, hr, rfl⟩ := State.run_cons_eq_some.mp hx
    exact State.run_cons_eq_some.mpr ⟨v, os₁ ++ os', hc, ih hr, List.append_assoc ..⟩

/-- Words that change nothing where nothing is shown make a run that shows nothing and stays where it is. -/
theorem State.run_of_fixed {ws : List ControlWord} {s : State} (hshown : s.shown = none)
    (hws : ∀ c ∈ ws, s.clock c = .next s) : s.run ws = some ([], s) := by
  induction ws with
  | nil => rfl
  | cons c rest ih =>
    obtain ⟨hc, hrest⟩ := List.forall_mem_cons.mp hws
    exact State.run_cons_eq_some.mpr ⟨s, [], hc, ih hrest, by rw [hshown]; rfl⟩

/-- `IDLE` words after an `IDLE` find nothing left to clear (42_port_operations.md R114). -/
theorem State.run_idles {c : ControlWord} {ws : List ControlWord} {s : State} (hp : s.power = .live)
    (hws : ∀ x ∈ c :: ws, decodeControl x = .idle) : s.run (c :: ws) = some ([], s.emitNothing) := by
  obtain ⟨hc, hrest⟩ := List.forall_mem_cons.mp hws
  exact State.run_cons_eq_some.mpr ⟨_, [], State.clock_of_idle hc hp,
    State.run_of_fixed s.shown_emitNothing fun x hx => State.clock_of_idle (hrest x hx) hp, rfl⟩

/-- From a transport error on, words without `rst` show nothing (42_port_operations.md R113, R116). -/
theorem State.run_terr {e : ControlWord} {vs : List ControlWord} {s : State} (hp : s.power = .live)
    (hr : e.getLsbD 10 = false) (he : e.getLsbD 9 = true) (hvs : ∀ c ∈ vs, c.getLsbD 10 = false) :
    s.run (e :: vs) = some ([], s.enterHalted) :=
  State.run_cons_eq_some.mpr ⟨_, [], State.clock_of_err hr he hp,
    State.run_of_fixed s.shown_enterHalted fun c hc => State.clock_enterHalted (hvs c hc) hp, rfl⟩

/-- In RUN, `PUSH` and `IDLE` words are a feed of the pushed bytes to the buffer (42_port_operations.md R116). -/
theorem State.run_stream {ws : List ControlWord} {s : State} (hp : s.power = .live) (hf : s.fault = false)
    (hc : s.cnt.toNat ≤ 6) (hws : ∀ c ∈ ws, isStreamWord c = true) :
    ∃ t, s.run ws = some ((StreamSynchronizer.feed s.buf (pushedBytes ws)).1, t) ∧
      t.buf = (StreamSynchronizer.feed s.buf (pushedBytes ws)).2 ∧ t.power = .live := by
  induction ws generalizing s with
  | nil => exact ⟨s, rfl, rfl, hp⟩
  | cons c rest ih =>
    obtain ⟨hstream, hrest⟩ := List.forall_mem_cons.mp hws
    rcases decodeControl_of_stream hstream with hidle | ⟨b, hpush⟩
    · obtain ⟨t, hrun, ht⟩ := ih (s := s.emitNothing) hp hf hc hrest
      rw [pushedBytes, hidle]
      exact ⟨t, State.run_cons_eq_some.mpr ⟨_, _, State.clock_of_idle hidle hp, hrun, rfl⟩, ht⟩
    · have hclock := State.clock_of_push hpush hp
      obtain ⟨t, hrun, ht⟩ := ih (s := s.pushed b) (by simpa using hp) (by simpa using hf) (exec_cnt_le hclock hc) hrest
      rw [pushedBytes, hpush, StreamSynchronizer.feed, ← State.pushed_refines_push b hf hc]
      exact ⟨t, State.run_cons_eq_some.mpr ⟨_, _, hclock, hrun, rfl⟩, ht⟩

/-- A session from its `RESET`: a feed of the pushed bytes to an empty buffer, whatever was before. -/
theorem State.run_session {r : ControlWord} {ws : List ControlWord} (hr : r.getLsbD 10 = true)
    (hws : ∀ c ∈ ws, isStreamWord c = true) (s : State) :
    ∃ t, s.run (r :: ws) = some ((StreamSynchronizer.feed [] (pushedBytes ws)).1, t) ∧
      t.buf = (StreamSynchronizer.feed [] (pushedBytes ws)).2 ∧ t.power = .live := by
  obtain ⟨t, hrun, ht⟩ := State.run_stream (s := s.newSession) rfl rfl (by simp) hws
  exact ⟨t, State.run_cons_eq_some.mpr ⟨_, _, State.clock_of_rst hr s, hrun, rfl⟩, ht⟩

end Sys2Proof.Machine
end

section
/-! SUPPORT. What the port operations do, one by one, in one cycle and in a session (42_port_operations.md R111 to R116). -/

namespace Sys2Proof.Machine

/-- Settles O58: a session is a feed of its pushed bytes; a transport error cuts it off, and another run may stand before
it. -/
theorem portRefinesFeed : Obligations.PortRefinesFeed := by
  intro r ws s hr hws
  refine ⟨?_, fun e vs her hee hvs => ?_, fun before os u hbefore => ?_⟩
  · obtain ⟨t, hrun, hbuf, -⟩ := State.run_session hr hws s
    exact ⟨t, hrun, hbuf⟩
  · obtain ⟨t, hrun, -, hp⟩ := State.run_session hr hws s
    exact ⟨_, by simpa using State.run_append hrun (State.run_terr hp her hee hvs)⟩
  · obtain ⟨t, hrun, hbuf, -⟩ := State.run_session hr hws u
    exact ⟨t, State.run_append hbefore hrun, hbuf⟩

/-- Settles O18: the branch is chosen as R112 chooses it, and `clock` reads the canonical word as `PUSH b`. -/
theorem pushCompletes : Obligations.PushCompletes := by
  intro b s hp
  rw [← controlOfInstr_push, State.clock, decodeControl_controlOfInstr_push]
  refine ⟨rfl, s.pushed b, exec_push_eq_next.mpr ⟨hp, rfl⟩, ?_⟩
  rcases State.pushed_cases b s with ⟨hf, h⟩ | ⟨hf, hc, h⟩ | ⟨hf, hc, hm, h⟩ | ⟨hf, hc, hm, h⟩ <;> rw [h]
  · rw [if_pos hf]; rfl
  · rw [if_neg (ne_true_of_eq_false hf), if_pos hc]; rfl
  · rw [if_neg (ne_true_of_eq_false hf), if_neg hc, if_pos (s.headIsMarker_iff.mp hm)]; rfl
  · have hn : ¬(s.w[0] = 0x5A ∧ s.w[1] = 0x5A) := by rw [← s.headIsMarker_iff, hm]; decide
    rw [if_neg (ne_true_of_eq_false hf), if_neg hc, if_neg hn]; rfl

/-- Settles O19: once the block has been reset the push completes, and in RUN it is the buffer's push. -/
theorem pushRefinesBufferPush : Obligations.PushRefinesBufferPush := fun b s hp hf hc =>
  ⟨s.pushed b, exec_push_eq_next.mpr ⟨hp, rfl⟩, State.pushed_refines_push b hf hc⟩

/-- Settles O9: the strobes select the row, and the pins are the registers. -/
theorem cycleIsTheStepFunction : Obligations.CycleIsTheStepFunction := by
  refine ⟨fun s c => ?_, fun s => ⟨rfl, rfl, rfl, rfl⟩⟩
  cases hr : c.getLsbD 10 with
  | true => exact ⟨s.newSession, State.clock_of_rst hr s, rfl⟩
  | false =>
    rw [if_neg Bool.false_ne_true]
    cases hp : s.power with
    | powerOn => exact State.clock_refused hr hp
    | live =>
      rw [if_neg (by simp)]
      cases he : c.getLsbD 9 with
      | true => exact ⟨s.enterHalted, State.clock_of_err hr he hp, rfl⟩
      | false =>
        cases hv : c.getLsbD 8 with
        | true => exact congrArg (exec · s) (decodeControl_of_valid hr he hv)
        | false => exact ⟨s.emitNothing, State.clock_of_idle (decodeControl_of_no_strobe hr he hv) hp, rfl⟩

/-- Settles O12: `RESET` is the one instruction that no guard stands before, and the one that clears the fault. -/
theorem resetCompletesInEveryState : Obligations.ResetCompletesInEveryState := by
  refine ⟨fun s => ⟨s.newSession, rfl, rfl, s.buf_newSession, rfl, fun c hc => State.clock_of_rst hc s⟩,
    fun i s t hi h => ⟨exec_power hi h, fun hf => ?_⟩⟩
  rcases exec_fault_cases h with ⟨hr, _⟩ | ⟨_, ht⟩ | ⟨_, _, ht⟩
  · exact absurd hr hi
  · exact ht
  · exact ht.trans hf

/-- Settles O16: `in_err` selects `TERR` whatever the byte, and `TERR` completes once the block has been reset. -/
theorem terrCompletes : Obligations.TerrCompletes := fun s hp =>
  ⟨⟨s.enterHalted, State.whenReset_live hp _, rfl⟩, fun _ hr he => congrArg (exec · s) (decodeControl_of_err hr he)⟩

/-- Settles O17: one `IDLE` clears `OUT`, and the others of the run find it cleared. -/
theorem idleCompletes : Obligations.IdleCompletes := by
  refine ⟨fun s hp => ⟨⟨s.emitNothing, State.whenReset_live hp _, rfl⟩, fun c hr he hv =>
    congrArg (exec · s) (decodeControl_of_no_strobe hr he hv)⟩, fun ws s hp hws hne => ?_⟩
  cases ws with
  | nil => exact absurd rfl hne
  | cons c rest => exact ⟨s.emitNothing, State.run_idles hp hws, rfl⟩

/-- Settles O21: each of the three writes the session, the counter, the fault and `OUT` at most. -/
theorem controlOperationsFrame : Obligations.ControlOperationsFrame := by
  rintro i s t (rfl | rfl | rfl) h
  · obtain rfl : s.newSession = t := Host.Outcome.next.inj h
    exact ⟨rfl, rfl, rfl, fun hn => absurd rfl hn, fun hi => (by cases hi)⟩
  · obtain ⟨-, rfl⟩ := State.whenReset_eq_next.mp h
    exact ⟨rfl, rfl, rfl, fun _ => ⟨rfl, rfl, rfl⟩, fun hi => (by cases hi)⟩
  · obtain ⟨-, rfl⟩ := State.whenReset_eq_next.mp h
    exact ⟨rfl, rfl, rfl, fun _ => ⟨rfl, rfl, rfl⟩, fun _ => rfl⟩

end Sys2Proof.Machine
end

section
/-! SUPPORT. The session fault, the independence of instances, and what the stream never yields (60_exceptions.md R132,
R134, R135, R139, R142). -/

namespace Sys2Proof.Machine

/-- Settles O14: `RESET` leaves a block live, and every other instruction keeps the power-on condition. -/
theorem powerOnIsLeftByResetOnly : Obligations.PowerOnIsLeftByResetOnly := by
  intro i s t h
  by_cases hi : i = .reset
  · subst hi
    obtain rfl : s.newSession = t := Host.Outcome.next.inj h
    exact ⟨fun _ => rfl, fun _ _ => rfl⟩
  · have hpow : t.power = s.power := exec_power hi h
    refine ⟨fun hlive => hpow.trans hlive, fun hon hlive => ?_⟩
    rw [hpow, hon] at hlive
    cases hlive

/-! ### HALTED -/

/-- A transport error in HALTED clears `OUT` and has nothing else to do (42_port_operations.md R113). -/
theorem State.enterHalted_of_halted {s : State} (hf : s.fault = true) : s.enterHalted = s.emitNothing := by
  simp only [State.enterHalted, State.emitNothing, ← hf]

/-- In HALTED every word without `rst` clears `OUT` alone (60_exceptions.md R134). -/
theorem State.clock_of_halted {c : ControlWord} {s : State} (hp : s.power = .live) (hf : s.fault = true)
    (hr : c.getLsbD 10 = false) : s.clock c = .next s.emitNothing := by
  rcases decodeControl_cases c with ⟨hr', _⟩ | ⟨_, he, _⟩ | ⟨_, _, _, h⟩ | ⟨_, _, _, h⟩
  · rw [hr] at hr'; cases hr'
  · rw [State.clock_of_err hr he hp, State.enterHalted_of_halted hf]
  · rw [State.clock_of_push h hp, State.pushed_of_halted _ hf]
  · exact State.clock_of_idle h hp

/-- Settles O27: the first word clears `OUT`, and the others find it cleared. -/
theorem haltedUntilReset : Obligations.HaltedUntilReset := by
  intro ws s hp hf hws
  cases ws with
  | nil => exact ⟨s, rfl, hp, hf, rfl, rfl⟩
  | cons c rest =>
    obtain ⟨hc, hrest⟩ := List.forall_mem_cons.mp hws
    have hstay : s.emitNothing.run rest = some ([], s.emitNothing) :=
      State.run_of_fixed s.shown_emitNothing fun x hx => State.clock_of_halted (s := s.emitNothing) hp hf (hrest x hx)
    exact ⟨s.emitNothing, State.run_cons_eq_some.mpr ⟨_, [], State.clock_of_halted hp hf hc, hstay, rfl⟩,
      hp, hf, rfl, rfl⟩

/-! ### Several instances -/

section
variable {α : Type} {j k : Nat}

@[simp] theorem ofInstance_cons_self (a : α) (xs : List (Nat × α)) :
    ofInstance k ((k, a) :: xs) = a :: ofInstance k xs := by simp [ofInstance]

theorem ofInstance_cons_of_ne (h : j ≠ k) (a : α) (xs : List (Nat × α)) :
    ofInstance k ((j, a) :: xs) = ofInstance k xs := by simp [ofInstance, h]

/-- The outcomes that an edge of block `k` shows are all its own. -/
theorem ofInstance_map_append_self (as : List α) (xs : List (Nat × α)) :
    ofInstance k (as.map (fun a => (k, a)) ++ xs) = as ++ ofInstance k xs := by
  induction as with
  | nil => rfl
  | cons a as ih => rw [List.map_cons, List.cons_append, ofInstance_cons_self, ih, List.cons_append]

/-- Of the outcomes that an edge of another block shows, none is block `k`'s. -/
theorem ofInstance_map_append_of_ne (h : j ≠ k) (as : List α) (xs : List (Nat × α)) :
    ofInstance k (as.map (fun a => (j, a)) ++ xs) = ofInstance k xs := by
  induction as with
  | nil => rfl
  | cons a as ih => rw [List.map_cons, List.cons_append, ofInstance_cons_of_ne h, ih]

end

/-- The first edge of a schedule that runs: the block it names is there, is clocked, and is put back before the rest runs. -/
theorem runInstances_cons_eq_some {k : Nat} {c : ControlWord} {rest : List (Nat × ControlWord)} {ss ss' : List State}
    {os : List (Nat × DecodeOutcome)} (h : runInstances ((k, c) :: rest) ss = some (os, ss')) :
    ∃ s t os', ss[k]? = some s ∧ s.clock c = .next t ∧ runInstances rest (ss.set k t) = some (os', ss') ∧
      os = t.shown.toList.map (fun o => (k, o)) ++ os' := by
  rw [runInstances] at h
  cases hs : ss[k]? with
  | none => rw [hs] at h; cases h
  | some s =>
    cases hc : s.clock c with
    | fault r | refused r => simp only [hs, hc] at h; cases h
    | next t =>
      cases hr : runInstances rest (ss.set k t) with
      | none => simp only [hs, hc, hr] at h; cases h
      | some r =>
        simp only [hs, hc, hr] at h
        cases h
        exact ⟨s, t, r.1, rfl, hc, hr, rfl⟩

/-- Settles O46, by induction over the schedule: an edge is the next word of the block it names and leaves the others as
they were. -/
theorem instancesAreIndependent : Obligations.InstancesAreIndependent := by
  intro sched
  induction sched with
  | nil =>
    intro ss ss' os h
    cases h
    exact ⟨rfl, fun k s hs => ⟨s, hs, rfl⟩⟩
  | cons edge rest ih =>
    obtain ⟨j, c⟩ := edge
    intro ss ss' os h
    obtain ⟨u, t, os', hu, hc, hrest, rfl⟩ := runInstances_cons_eq_some h
    obtain ⟨hlen, hsolo⟩ := ih (ss.set j t) ss' os' hrest
    refine ⟨by rw [hlen, List.length_set], fun k s hs => ?_⟩
    by_cases hjk : j = k
    · subst hjk
      obtain rfl : u = s := Option.some.inj (hu.symm.trans hs)
      have ht : (ss.set j t)[j]? = some t := by
        obtain ⟨hj, _⟩ := List.getElem?_eq_some_iff.mp hu
        exact List.getElem?_set_self hj
      obtain ⟨s', hs', hrun⟩ := hsolo j t ht
      rw [ofInstance_cons_self, ofInstance_map_append_self]
      exact ⟨s', hs', State.run_cons_eq_some.mpr ⟨t, _, hc, hrun, rfl⟩⟩
    · rw [ofInstance_cons_of_ne hjk, ofInstance_map_append_of_ne hjk]
      exact hsolo k s ((List.getElem?_set_ne hjk).trans hs)

/-! ### The outcomes of the stream -/

/-- The marker detector passes no window that the decoder would reject for its marker (60_exceptions.md R132). -/
theorem decode_ne_badMarker {w : Window} (h : markerOk w.w0 w.w1 = true) :
    FrameDecoder.decode w ≠ .invalid .badMarker := by
  obtain ⟨h0, h1⟩ := (markerOk_iff ..).mp h
  rcases Safety.decode_of_marked h0 h1 with ⟨r, hr, hd⟩ | ⟨d, _, _, hd⟩ <;> rw [hd]
  · exact fun hb => hr (DecodeOutcome.invalid.inj hb)
  · exact DecodeOutcome.noConfusion

/-- An iteration decodes only a window whose head is the marker. -/
theorem StreamSynchronizer.iterate_ne_badMarker {buf rest : List Byte} {o : Option DecodeOutcome}
    (h : StreamSynchronizer.iterate buf = some (o, rest)) : o ≠ some (.invalid .badMarker) := by
  obtain ⟨b0, b1, b2, b3, b4, b5, b6, tail, -, ⟨hm, rfl, -⟩ | ⟨-, rfl, -⟩⟩ := StreamSynchronizer.iterate_cases h
  · exact fun hb => decode_ne_badMarker hm (Option.some.inj hb)
  · nofun

theorem StreamSynchronizer.push_ne_badMarker (buf : List Byte) (b : Byte) :
    (StreamSynchronizer.push buf b).1 ≠ some (.invalid .badMarker) := by
  rcases StreamSynchronizer.push_cases buf b with ⟨_, hp⟩ | ⟨o, rest, hi, hp⟩ <;> rw [hp]
  · nofun
  · exact StreamSynchronizer.iterate_ne_badMarker hi

/-- Settles O53, by induction over the bytes: an outcome of the feed is that of its first push or of the others. -/
theorem noBadMarkerFromTheStream : Obligations.NoBadMarkerFromTheStream := by
  intro buf bytes
  induction bytes generalizing buf with
  | nil => exact List.not_mem_nil
  | cons b rest ih =>
    rw [StreamSynchronizer.feed, List.mem_append, Option.mem_toList]
    exact not_or.mpr ⟨StreamSynchronizer.push_ne_badMarker buf b, ih _⟩

end Sys2Proof.Machine
end

section
/-! SUPPORT. What one step runs (42_port_operations.md R115), and how long one stray sync byte keeps the block out of step
(70_reset_and_hazards.md R155, R158). -/

namespace Sys2Proof.Machine

/-- Settles O8: a step releases the request and runs what it decoded; the word `0x000` is `IDLE`, and is its own release. -/
theorem stepRunsTheDecodedInstruction : Obligations.StepRunsTheDecodedInstruction := by
  refine ⟨fun s => rfl, fun x s => rfl, fun s h => ?_⟩
  have hidle : decodeInput (.ctrl 0x000) = .idle := by decide
  rw [step, State.release_of_nothing_asserted h, h, hidle]

/-! ### One stray sync byte -/

/-- Two payload bytes sum to at most 510, so two sums give the checksum `5A` (70_reset_and_hazards.md R158). -/
theorem frameOfDistance_csum_eq_sync_iff (d : Distance) :
    (frameOfDistance d).w6 = Config.sync ↔
      d.toNat / 256 + d.toNat % 256 = 95 ∨ d.toNat / 256 + d.toNat % 256 = 351 := by
  have hcsum : (frameOfDistance d).w6.toNat = (0xFB + d.toNat / 256 + d.toNat % 256) % 256 := by
    rw [← distHi_toNat, ← distLo_toNat]
    exact expectedCsum_toNat (distHi d) (distLo d)
  have hsync : Config.sync.toNat = 90 := rfl
  rw [← BitVec.toNat_inj, hcsum, hsync]
  omega

/-- Behind a stray sync byte a frame is read one byte early, with its own second sync byte in the place of the type; its
checksum byte is left over and stands before what follows. -/
theorem StreamSynchronizer.scan_stray_frame (d : Distance) (rest : List Byte) :
    StreamSynchronizer.scan (Config.sync :: (windowBytes (frameOfDistance d) ++ rest)) =
      (.invalid .wrongType :: (StreamSynchronizer.scan ((frameOfDistance d).w6 :: rest)).1,
        (StreamSynchronizer.scan ((frameOfDistance d).w6 :: rest)).2) := by
  have htype : Config.sync ≠ Config.typeDist := by decide
  rw [← decode_markedWindow Config.typeDist Config.lenDist (distHi d) (distLo d) htype]
  exact StreamSynchronizer.scan_window
    (w := markedWindow Config.sync Config.typeDist Config.lenDist (distHi d) (distLo d))
    ((markerOk_iff ..).mpr ⟨rfl, rfl⟩) ((frameOfDistance d).w6 :: rest)

/-- Frames whose checksum is the sync byte each leave the stray byte that the next one meets. -/
theorem StreamSynchronizer.scan_stray_frames {ds : List Distance} (hds : ∀ d ∈ ds, (frameOfDistance d).w6 = Config.sync)
    (rest : List Byte) :
    StreamSynchronizer.scan (Config.sync :: (ds.flatMap (fun x => windowBytes (frameOfDistance x)) ++ rest)) =
      (List.replicate ds.length (.invalid .wrongType) ++ (StreamSynchronizer.scan (Config.sync :: rest)).1,
        (StreamSynchronizer.scan (Config.sync :: rest)).2) := by
  induction ds with
  | nil => rfl
  | cons d ds ih =>
    obtain ⟨hd, hrest⟩ := List.forall_mem_cons.mp hds
    rw [List.flatMap_cons, List.append_assoc, StreamSynchronizer.scan_stray_frame, hd, ih hrest]
    rfl

/-- A byte that is no sync byte is slid out, and the frame behind it is decoded. -/
theorem StreamSynchronizer.scan_skip_to_frame {b : Byte} (hb : b ≠ Config.sync) (e : Distance) :
    StreamSynchronizer.scan (b :: windowBytes (frameOfDistance e)) = ([FrameDecoder.decode (frameOfDistance e)], []) := by
  have hno : ∀ j, j < 1 → ¬MarkerAt (b :: windowBytes (frameOfDistance e)) j := by
    intro j hj hm
    obtain rfl : j = 0 := Nat.lt_one_iff.mp hj
    exact hb (Option.some.inj hm.1)
  rw [StreamSynchronizer.scan_drop (by simp [windowBytes]) hno]
  exact StreamSynchronizer.scan_frame e []

/-- Settles O57: the stray byte passes from frame to frame up to the first checksum that is no sync byte, and that one is
slid out. -/
theorem misalignmentPersistsWhileChecksumIsSync : Obligations.MisalignmentPersistsWhileChecksumIsSync := by
  refine ⟨frameOfDistance_csum_eq_sync_iff, fun ds hds => ⟨?_, fun d e hd => ?_⟩⟩
  · have hstray := StreamSynchronizer.scan_stray_frames hds []
    rw [StreamSynchronizer.scan_short (buf := [Config.sync]) (by decide), List.append_nil, List.append_nil] at hstray
    exact (StreamSynchronizer.feed_nil_eq_scan _).trans hstray
  · have hstray := StreamSynchronizer.scan_stray_frames hds
      (windowBytes (frameOfDistance d) ++ windowBytes (frameOfDistance e))
    rw [StreamSynchronizer.scan_stray_frame, StreamSynchronizer.scan_skip_to_frame hd] at hstray
    rw [StreamSynchronizer.feed_nil_eq_scan, List.append_assoc, List.replicate_succ', List.append_assoc]
    exact hstray

end Sys2Proof.Machine
end
